-- ==== Sys2Proof/Word.lean ====
section
/-!
DEFINITION. The words the core's bus and datapath carry: 32-bit bus words, signed 16-bit samples, the I/Q pair (00_scope.md
R10, R15, R16) and one bus transaction (30_encoding.md R140).
-/
namespace Sys2Proof

/-- A bus word: header, data or response (R140). -/
abbrev Word := BitVec 32

/-- A signed 16-bit sample, two's complement (R10). -/
abbrev Sample := BitVec 16

/-- The core's only packed type: lane I and lane Q, each a signed 16-bit sample (R15, R16). -/
structure Pair where
  i : Sample
  q : Sample
deriving DecidableEq, Repr, Inhabited

/-- One bus transaction: a 32-bit header and a 32-bit data word, exactly 64 bits (R140, R141). -/
structure BusTxn where
  header : Word
  data : Word
deriving DecidableEq, Repr, Inhabited

end Sys2Proof
end

