-- ==== Sys2Proof/Machine/Arith.lean ====
section
/-!
DEFINITION. The conversion and arithmetic functions of 00_scope.md R11, on mathematical integers (R9), and the stores that
narrow a value to a register.
-/
namespace Sys2Proof.Machine

/-- `umod_N(v)`, unsigned wrap-around, in [0, 2^N - 1] (R11). -/
def umod (n : Nat) (v : Int) : Nat := (v % 2 ^ n).toNat

/-- `sext_N(v)`, the signed value of the low N bits (R10). -/
def sext (n : Nat) (v : Int) : Int :=
  if umod n v < 2 ^ (n - 1) then (umod n v : Int) else (umod n v : Int) - 2 ^ n

/-- `wrap_N(v)`, signed wrap-around: `sext_N(umod_N(v))` (R11). -/
def wrap (n : Nat) (v : Int) : Int := sext n (umod n v)

/-- `asr(v, s)`, the arithmetic right shift, rounding toward minus infinity (R11). -/
def asr (v : Int) (s : Nat) : Int := v / 2 ^ s

/-- `clamp(v, lo, hi)` (R11). -/
def clamp (v lo hi : Int) : Int := min (max v lo) hi

/-- `sat16(v)` (R11). -/
def sat16 (v : Int) : Int := clamp v (-32768) 32767

/-- `fdiv(a, b)`, floor division for b > 0 (R11). -/
def fdiv (a b : Int) : Int := a / b

/-- `rhaz` of the rational num / den, den > 0: the nearest integer, ties away from zero (R11). -/
def rhaz (num : Int) (den : Nat) : Int :=
  if 0 ≤ num then (2 * num + den) / (2 * den) else -((2 * -num + den) / (2 * den))

/-- Store of an integer into a signed 16-bit sample. -/
def toSample (v : Int) : Sample := BitVec.ofInt 16 v

/-- Store of `umod_W(v)` into a register that holds up to 64 bits (entry 8). -/
def reg64 (w : Nat) (v : Int) : BitVec 64 := BitVec.ofNat 64 (umod w v)

/-- Store of `umod_W(v)` into a register that holds up to 32 bits (entry 8). -/
def reg32 (w : Nat) (v : Int) : BitVec 32 := BitVec.ofNat 32 (umod w v)

end Sys2Proof.Machine
end

