-- ==== Sys2Proof/Config.lean ====
section
/-!
DEFINITION. The configuration record (00_scope.md R6): every implementation parameter, fixed at construction and never
state (R78), with the collaborators and open functions as fields; and the free values, opaque constants with no body.
The values of the machine modelled stand in Machine/Reference.lean.
-/
namespace Sys2Proof

/-- A filter collaborator: a state type, an initial state and a total step function of the state, one input pair and the
BANDWIDTH value (R15, R310, R337). Its state is a natural number, the code of a state of the collaborator's own type: every
countable state type has such a coding (entry 3). `none` says that no output sample is available this call. -/
structure Collab where
  init : Nat
  step : Nat → Pair → Word → Nat × Option Pair

/-- One AGC preset: attack shift, decay shift, hang count in demodulator calls (R389). -/
structure AgcPreset where
  att : Nat
  dec : Nat
  hang : Nat
deriving DecidableEq, Repr

/-- AGC_PRESETS: the table of four presets, in the order of AGC_SPEED (R389). -/
structure AgcPresets where
  fast : AgcPreset
  medium : AgcPreset
  slow : AgcPreset
  long : AgcPreset
deriving DecidableEq, Repr

/-- The parameters of R6, under the table's own names. `lutQuarter` gives entries 0 to LUT_SIZE/4 of SIN_LUT, since a
model takes the table as data and does not compute the sine (R250, entry 19). -/
structure Config where
  fS : Nat
  adcBits : Nat
  nBlock : Nat
  capLen : Nat
  capShift : Nat
  wPhase : Nat
  lutBits : Nat
  lutAmp : Nat
  lutQuarter : Nat → Nat
  sLut : Nat
  cicOrder : Nat
  wCic : Nat
  rMain : Nat
  cicShiftMain : Nat
  rCw : Nat
  cicShiftCw : Nat
  interp : Nat
  outCap : Nat
  kAm : Nat
  agcExtra : Nat
  agcGainFrac : Nat
  agcSetpoint : Nat
  agcPresets : AgcPresets
  hb1 : Collab
  hb2 : Collab
  ssbFilt : Collab
  mag : Sample → Sample → BitVec 16
  phase : Sample → Sample → Sample
  postAgc : Sample → Word → Word → Sample
  perfCycles : Nat → Word

/-- R_TOTAL, the total decimation rate of the main path (R7). -/
def Config.rTotal (c : Config) : Nat := 2 * c.rMain

/-- MID, the ADC mid-code (R7). -/
def Config.mid (c : Config) : Nat := 2 ^ (c.adcBits - 1)

/-- LUT_SIZE (R7). -/
def Config.lutSize (c : Config) : Nat := 2 ^ c.lutBits

/-- PHASE_TO_INDEX, the shift that takes the top LUT_BITS bits of a phase (R7). -/
def Config.phaseToIndex (c : Config) : Nat := c.wPhase - c.lutBits

/-! ### Free values (93_implementation_defined.md I1 to I4, I10, I12): nothing can be proved of their values. -/

/-- Next state code of the decimating half-band filter, apart from its readiness phase (R310, entry 3). -/
opaque Config.freeHb1Next : Nat → Pair → Word → Nat
/-- Output sample of the decimating half-band filter on a ready call (R311). -/
opaque Config.freeHb1Out : Nat → Pair → Word → Pair
/-- Next state code of the non-decimating half-band filter (R310). -/
opaque Config.freeHb2Next : Nat → Pair → Word → Nat
/-- Output sample of the non-decimating half-band filter (R312). -/
opaque Config.freeHb2Out : Nat → Pair → Word → Pair
/-- Next state code of the SSB filter (R337). -/
opaque Config.freeSsbNext : Nat → Pair → Word → Nat
/-- Output sample of the SSB filter (R337). -/
opaque Config.freeSsbOut : Nat → Pair → Word → Pair
/-- The magnitude extractor away from (0, 0) (R331). -/
opaque Config.freeMag : Sample → Sample → BitVec 16
/-- The phase extractor away from (0, 0) (R332). -/
opaque Config.freePhase : Sample → Sample → Sample
/-- What VOLUME and SQUELCH do to an audio sample (R391). -/
opaque Config.freePostAgc : Sample → Word → Word → Sample
/-- PERF_CYCLES: the value of the n-th read (R73, R440). -/
opaque Config.freePerfCycles : Nat → Word

end Sys2Proof
end

