-- ==== Sys2Proof/Syntax.lean ====
section
/-!
DEFINITION. The transactions of the core, one constructor per row of spec/opcode_table.json (30_encoding.md R146). A write
carries its whole data word, which its meaning assembles by the form R143 names; a register read carries nothing, since the
core ignores its data word (R140); a window read carries its index (R144).
-/
namespace Sys2Proof

/-- The 34 legal transactions, in the table's order (R146). -/
inductive Instr where
  /-- WR_STATUS, R410. -/
  | wrStatus (data : Word)
  /-- RD_STATUS, R411. -/
  | rdStatus
  /-- WR_FREQ_OFFSET, R412. -/
  | wrFreqOffset (data : Word)
  /-- RD_FREQ_OFFSET, R413. -/
  | rdFreqOffset
  /-- RD_FREQ_WORD, R414. -/
  | rdFreqWord
  /-- WR_MODE, R415. -/
  | wrMode (data : Word)
  /-- RD_MODE, R416. -/
  | rdMode
  /-- WR_BANDWIDTH, R417. -/
  | wrBandwidth (data : Word)
  /-- RD_BANDWIDTH, R418. -/
  | rdBandwidth
  /-- WR_AGC_SPEED, R419. -/
  | wrAgcSpeed (data : Word)
  /-- RD_AGC_SPEED, R420. -/
  | rdAgcSpeed
  /-- WR_CW_SIDETONE, R421. -/
  | wrCwSidetone (data : Word)
  /-- RD_CW_SIDETONE, R422. -/
  | rdCwSidetone
  /-- RD_SIDETONE_INC, R423. -/
  | rdSidetoneInc
  /-- WR_GAIN_CAL, R424. -/
  | wrGainCal (data : Word)
  /-- RD_GAIN_CAL, R425. -/
  | rdGainCal
  /-- WR_VOLUME, R426. -/
  | wrVolume (data : Word)
  /-- RD_VOLUME, R427. -/
  | rdVolume
  /-- WR_SQUELCH, R428. -/
  | wrSquelch (data : Word)
  /-- RD_SQUELCH, R429. -/
  | rdSquelch
  /-- WR_IQ_SWAP, R430. -/
  | wrIqSwap (data : Word)
  /-- RD_IQ_SWAP, R431. -/
  | rdIqSwap
  /-- WR_PWM_MAX, R432. -/
  | wrPwmMax (data : Word)
  /-- RD_PWM_MAX, R433. -/
  | rdPwmMax
  /-- RD_SIGNAL_STRENGTH, R434. -/
  | rdSignalStrength
  /-- RD_OUT_COUNT, R435. -/
  | rdOutCount
  /-- RD_BLOCK_INDEX, R436. -/
  | rdBlockIndex
  /-- PUSH_CODE, R437. -/
  | pushCode (data : Word)
  /-- RD_CAP_SEQ, R438. -/
  | rdCapSeq
  /-- RD_BLK_SEQ, R439. -/
  | rdBlkSeq
  /-- RD_PERF_CYCLES, R440. -/
  | rdPerfCycles
  /-- RD_CAP_I, R441. -/
  | rdCapI (k : BitVec 8)
  /-- RD_CAP_Q, R442. -/
  | rdCapQ (k : BitVec 8)
  /-- RD_AUDIO_OUT, R443. -/
  | rdAudioOut (k : BitVec 10)
deriving DecidableEq, Repr

/-- Whether a transaction is a write, W = 1 (R140). -/
def Instr.isWrite : Instr → Bool
  | .wrStatus _ => true
  | .rdStatus => false
  | .wrFreqOffset _ => true
  | .rdFreqOffset => false
  | .rdFreqWord => false
  | .wrMode _ => true
  | .rdMode => false
  | .wrBandwidth _ => true
  | .rdBandwidth => false
  | .wrAgcSpeed _ => true
  | .rdAgcSpeed => false
  | .wrCwSidetone _ => true
  | .rdCwSidetone => false
  | .rdSidetoneInc => false
  | .wrGainCal _ => true
  | .rdGainCal => false
  | .wrVolume _ => true
  | .rdVolume => false
  | .wrSquelch _ => true
  | .rdSquelch => false
  | .wrIqSwap _ => true
  | .rdIqSwap => false
  | .wrPwmMax _ => true
  | .rdPwmMax => false
  | .rdSignalStrength => false
  | .rdOutCount => false
  | .rdBlockIndex => false
  | .pushCode _ => true
  | .rdCapSeq => false
  | .rdBlkSeq => false
  | .rdPerfCycles => false
  | .rdCapI _ => false
  | .rdCapQ _ => false
  | .rdAudioOut _ => false

end Sys2Proof
end

