-- ==== Sys2Proof/WellFormed.lean ====
section
/-!
DEFINITION. Well-formedness: of a configuration (00_scope.md R8, one check per item) and of an instruction (an AUDIO_OUT index
below OUT_CAP, 30_encoding.md R142, R144).
-/
namespace Sys2Proof

/-- R8 item 1. -/
abbrev Config.Wf1 (c : Config) : Prop := 0 < c.fS ∧ 1 ≤ c.rMain ∧ 1 ≤ c.rCw ∧ 1 ≤ c.interp
/-- R8 item 2. -/
abbrev Config.Wf2 (c : Config) : Prop := c.nBlock % 2 = 0 ∧ c.capLen ≤ c.nBlock
/-- R8 item 3: a captured sample fits a signed byte. -/
abbrev Config.Wf3 (c : Config) : Prop := 1 ≤ c.adcBits ∧ c.adcBits ≤ 16 ∧ c.adcBits ≤ 8 + c.capShift
/-- R8 item 4. -/
abbrev Config.Wf4 (c : Config) : Prop :=
  2 ≤ c.lutBits ∧ c.lutBits ≤ c.wPhase ∧ c.wPhase ≤ 32 ∧ c.lutAmp ≤ 32767 ∧ c.sLut ≤ 31
/-- R8 item 5, the bit-growth account: `W >= B + ceil(order * log2 R)` is written as `2^B * R^order <= 2^W`, which says the same
of whole numbers `B`, `W` and `R >= 1`. -/
abbrev Config.Wf5 (c : Config) : Prop :=
  2 ^ c.adcBits * c.rMain ^ c.cicOrder ≤ 2 ^ c.wCic ∧ 2 ^ 16 * c.rCw ^ c.cicOrder ≤ 2 ^ c.wCic ∧ c.wCic ≤ 64
/-- R8 item 6. -/
abbrev Config.Wf6 (c : Config) : Prop :=
  (c.nBlock / (2 * c.rMain) + 1) * c.interp ≤ c.outCap ∧ c.outCap ≤ 1024
/-- R8 item 7. -/
abbrev Config.Wf7 (c : Config) : Prop :=
  1 ≤ c.agcSetpoint ∧ c.agcSetpoint ≤ 32767 ∧ c.agcExtra ≤ 31 ∧ c.agcGainFrac ≤ 31
/-- R8 item 8, of one preset. -/
abbrev AgcPreset.Wf (p : AgcPreset) : Prop := p.att ≤ 63 ∧ p.dec ≤ 63 ∧ p.hang ≤ 2 ^ 32 - 1
/-- R8 item 8. -/
abbrev Config.Wf8 (c : Config) : Prop :=
  c.agcPresets.fast.Wf ∧ c.agcPresets.medium.Wf ∧ c.agcPresets.slow.Wf ∧ c.agcPresets.long.Wf
/-- R8 item 9. -/
abbrev Config.Wf9 (c : Config) : Prop := c.cicOrder = 4 ∧ c.kAm ≤ 15
/-- The capture windows have the 256 entries of the address map (R74, R101). -/
abbrev Config.WfWindows (c : Config) : Prop := c.capLen = 256

/-- A well-formed configuration (R8). A configuration that fails one item has no meaning (W1). -/
abbrev Config.Wf (c : Config) : Prop :=
  c.Wf1 ∧ c.Wf2 ∧ c.Wf3 ∧ c.Wf4 ∧ c.Wf5 ∧ c.Wf6 ∧ c.Wf7 ∧ c.Wf8 ∧ c.Wf9 ∧ c.WfWindows

/-- An instruction is well formed for an audio block of `outCap` entries: an AUDIO_OUT index is below OUT_CAP (R144). -/
def Instr.wf (outCap : Nat) : Instr → Bool
  | .rdAudioOut k => decide (k.toNat < outCap)
  | _ => true

/-! ### The laws of the collaborators: what a model may assume of them (R310 to R312, R331, R332, R337). -/

/-- The outputs of the successive calls of a collaborator instance from state `st` on the inputs `xs`. -/
def Collab.outputs (f : Collab) : Nat → List (Pair × Word) → List (Option Pair)
  | _, [] => []
  | st, x :: xs => (f.step st x.1 x.2).2 :: f.outputs (f.step st x.1 x.2).1 xs

/-- R311: from the initial state the k-th call (k = 1, 2, ...) is ready exactly when k is even. -/
def Collab.DecimatesByTwo (f : Collab) : Prop :=
  ∀ xs : List (Pair × Word), ∀ k, k < xs.length →
    ∃ r, (f.outputs f.init xs)[k]? = some r ∧ (r.isSome = true ↔ (k + 1) % 2 = 0)

/-- R312 and R337: every call is ready. -/
def Collab.NeverDecimates (f : Collab) : Prop := ∀ st x bw, ((f.step st x bw).2).isSome = true

/-- The laws of MAG and PHASE at (0, 0) (R331, R332); the range law of MAG is its result's type. -/
def Config.ExtractorLaws (c : Config) : Prop := c.mag 0 0 = 0 ∧ c.phase 0 0 = 0

end Sys2Proof
end

