-- ==== Sys2Proof/Machine/Reference.lean ====
section
/-!
DEFINITION. The values of the configuration: the reference table of SIN_LUT (41_nco_mixer.md R250), the reference collaborators
and extractors of the test vectors (43_halfband_controller.md R318, 44_demodulator.md R331, R332, R337, 45_agc.md R389, R391),
the reference configuration `Config.reference` (00_scope.md R6), and `Config.chip`, the machine modelled: the reference numbers
with every collaborator and open function a free value.
-/
namespace Sys2Proof

/-- Entries 0 to 63 of SIN_LUT in the reference configuration (R250). -/
def sinRows1 : List Nat :=
  [0, 201, 402, 603, 804, 1005, 1206, 1407, 1608, 1809, 2009, 2210, 2410, 2611, 2811, 3012] ++
  [3212, 3412, 3612, 3811, 4011, 4210, 4410, 4609, 4808, 5007, 5205, 5404, 5602, 5800, 5998, 6195] ++
  [6393, 6590, 6786, 6983, 7179, 7375, 7571, 7767, 7962, 8157, 8351, 8545, 8739, 8933, 9126, 9319] ++
  [9512, 9704, 9896, 10087, 10278, 10469, 10659, 10849, 11039, 11228, 11417, 11605, 11793, 11980, 12167, 12353]

/-- Entries 64 to 127 of SIN_LUT in the reference configuration (R250). -/
def sinRows2 : List Nat :=
  [12539, 12725, 12910, 13094, 13279, 13462, 13645, 13828, 14010, 14191, 14372, 14553, 14732, 14912, 15090, 15269] ++
  [15446, 15623, 15800, 15976, 16151, 16325, 16499, 16673, 16846, 17018, 17189, 17360, 17530, 17700, 17869, 18037] ++
  [18204, 18371, 18537, 18703, 18868, 19032, 19195, 19357, 19519, 19680, 19841, 20000, 20159, 20317, 20475, 20631] ++
  [20787, 20942, 21096, 21250, 21403, 21554, 21705, 21856, 22005, 22154, 22301, 22448, 22594, 22739, 22884, 23027]

/-- Entries 128 to 191 of SIN_LUT in the reference configuration (R250). -/
def sinRows3 : List Nat :=
  [23170, 23311, 23452, 23592, 23731, 23870, 24007, 24143, 24279, 24413, 24547, 24680, 24811, 24942, 25072, 25201] ++
  [25329, 25456, 25582, 25708, 25832, 25955, 26077, 26198, 26319, 26438, 26556, 26674, 26790, 26905, 27019, 27133] ++
  [27245, 27356, 27466, 27575, 27683, 27790, 27896, 28001, 28105, 28208, 28310, 28411, 28510, 28609, 28706, 28803] ++
  [28898, 28992, 29085, 29177, 29268, 29358, 29447, 29534, 29621, 29706, 29791, 29874, 29956, 30037, 30117, 30195]

/-- Entries 192 to 255 of SIN_LUT in the reference configuration (R250). -/
def sinRows4 : List Nat :=
  [30273, 30349, 30424, 30498, 30571, 30643, 30714, 30783, 30852, 30919, 30985, 31050, 31113, 31176, 31237, 31297] ++
  [31356, 31414, 31470, 31526, 31580, 31633, 31685, 31736, 31785, 31833, 31880, 31926, 31971, 32014, 32057, 32098] ++
  [32137, 32176, 32213, 32250, 32285, 32318, 32351, 32382, 32412, 32441, 32469, 32495, 32521, 32545, 32567, 32589] ++
  [32609, 32628, 32646, 32663, 32678, 32692, 32705, 32717, 32728, 32737, 32745, 32752, 32757, 32761, 32765, 32766]

/-- Entries 0 to 256 of SIN_LUT in the reference configuration (R250). -/
def sinQuarterRef : List Nat := sinRows1 ++ sinRows2 ++ sinRows3 ++ sinRows4 ++ [32767]

/-! ### Reference collaborators and extractors: for test vectors only, no claim about the hardware (R318). -/

/-- REF_HB1: passes every second input unchanged (R318). -/
def refHb1 : Collab := ⟨0, fun st x _ => (1 - st, if st = 1 then some x else none)⟩

/-- REF_HB2 and REF_SSB_FILT: the identity (R318, R337). -/
def refIdentity : Collab := ⟨0, fun st x _ => (st, some x)⟩

/-- The floor of the square root of `n`, for `n < 4^b`, bit by bit. -/
def isqrtBits (n : Nat) : Nat → Nat → Nat
  | 0, r => r
  | b + 1, r => isqrtBits n b (if (r + 2 ^ b) * (r + 2 ^ b) ≤ n then r + 2 ^ b else r)

/-- MAG_REF: isqrt(i*i + q*q) (R331). -/
def magRef (i q : Sample) : BitVec 16 :=
  BitVec.ofNat 16 (isqrtBits (i.toInt * i.toInt + q.toInt * q.toInt).toNat 16 0)

/-- cos and sin of the angles of 16384, 8192, ..., 1 units of 2^-16 turn, scaled by 2^64 and rounded (entry 12). -/
def phaseSteps : List (Nat × Int × Int) := [
  (16384, 0, 18446744073709551616),
  (8192, 13043817825332782212, 13043817825332782212),
  (4096, 17042569291174129989, 7059263338087549767),
  (2048, 18092295058859852118, 3598781241489102189),
  (1024, 18357917958986607856, 1808097102496279522),
  (512, 18424524162600791837, 905138830610008563),
  (256, 18441188259278644697, 452705761816584062),
  (128, 18445355067807029948, 226369926147403917),
  (64, 18446396818965434987, 113187093788755730),
  (32, 18446657259819241109, 56593813235639762),
  (16, 18446722370224206390, 28296939910536374),
  (8, 18446738647837417334, 14148474116859585),
  (4, 18446742717241468172, 7074237578628774),
  (2, 18446743734592527638, 3537118854339262),
  (1, 18446743988930295427, 1768559435297740)]

/-- Rotates (x, y) back by each step that leaves its angle at or above 0, and adds up the units of the steps taken. -/
def phaseUnits : List (Nat × Int × Int) → Int → Int → Nat
  | [], _, _ => 0
  | (u, c, s) :: rest, x, y =>
    if 0 ≤ y * c - x * s then u + phaseUnits rest (x * c + y * s) (y * c - x * s) else phaseUnits rest x y

/-- The angle of (x, y) in the first quadrant, x, y >= 0 and not both 0, rounded to units of 2^-16 turn: the whole units in the
angle plus half a unit. A tie cannot occur and 64 fraction bits decide every case of 16-bit lanes (entry 12). -/
def phaseQuadrant (x y : Int) : Int :=
  phaseUnits phaseSteps (x * 18446744052514737556 - y * 884279718664884)
    (y * 18446744052514737556 + x * 884279718664884)

/-- PHASE_REF (R332): `wrap_16(rhaz(atan2(q, i) * 32768 / pi))`, and 0 at (0, 0). -/
def phaseRef (i q : Sample) : Sample :=
  if i = 0 ∧ q = 0 then 0
  else
    let a := phaseQuadrant (Int.natAbs i.toInt) (Int.natAbs q.toInt)
    let b := if 0 ≤ i.toInt then a else 32768 - a
    BitVec.ofInt 16 (if 0 ≤ q.toInt then b else -b)

/-- The reference preset table (R389). -/
def agcPresetsRef : AgcPresets := ⟨⟨2, 8, 125⟩, ⟨2, 10, 1250⟩, ⟨2, 12, 6250⟩, ⟨2, 14, 25000⟩⟩

/-- The reference configuration, the one every test vector uses (R6). -/
def Config.reference : Config where
  fS := 500000
  adcBits := 12
  nBlock := 4000
  capLen := 256
  capShift := 4
  wPhase := 32
  lutBits := 10
  lutAmp := 32767
  lutQuarter := fun k => sinQuarterRef.getD k 0
  sLut := 15
  cicOrder := 4
  wCic := 32
  rMain := 20
  cicShiftMain := 18
  rCw := 10
  cicShiftCw := 14
  interp := 4
  outCap := 404
  kAm := 5
  agcExtra := 16
  agcGainFrac := 16
  agcSetpoint := 8192
  agcPresets := agcPresetsRef
  hb1 := refHb1
  hb2 := refIdentity
  ssbFilt := refIdentity
  mag := magRef
  phase := phaseRef
  postAgc := fun y _ _ => y
  perfCycles := Config.freePerfCycles

/-! ### The machine's own collaborators: the laws hold by construction, the values are free (entries 3 and 4). -/

/-- HB1 as a free collaborator that keeps R311: the low bit of the state code is its readiness phase. -/
def chipHb1 : Collab where
  init := 0
  step st x bw :=
    (2 * Config.freeHb1Next st x bw + (1 - st % 2), if st % 2 = 1 then some (Config.freeHb1Out st x bw) else none)

/-- HB2 as a free collaborator that keeps R312. -/
def chipHb2 : Collab where
  init := 0
  step st x bw := (Config.freeHb2Next st x bw, some (Config.freeHb2Out st x bw))

/-- SSB_FILT as a free collaborator that keeps R337. -/
def chipSsbFilt : Collab where
  init := 0
  step st x bw := (Config.freeSsbNext st x bw, some (Config.freeSsbOut st x bw))

/-- MAG, free but for its laws (R331). -/
def chipMag (i q : Sample) : BitVec 16 := if i = 0 ∧ q = 0 then 0 else Config.freeMag i q

/-- PHASE, free but for its law (R332). -/
def chipPhase (i q : Sample) : Sample := if i = 0 ∧ q = 0 then 0 else Config.freePhase i q

/-- The configuration of the machine modelled (entries 1 to 5). -/
def Config.chip : Config :=
  { Config.reference with
    hb1 := chipHb1
    hb2 := chipHb2
    ssbFilt := chipSsbFilt
    mag := chipMag
    phase := chipPhase
    postAgc := Config.freePostAgc }

end Sys2Proof
end

