-- ==== Sys2Proof/Decode.lean ====
section
/-!
DEFINITION. The transaction decoder (30_encoding.md R142), total on every header, and after it the encoder (R140, R146, R150).
The header is read as fields W (bit 31), RSV (bits 30:16) and ADDR (bits 15:0); no mode changes the decoding (R141).
-/
namespace Sys2Proof

/-- W, header bit 31: true for a write (R140). -/
def headerW (h : Word) : Bool := h.getLsbD 31

/-- RSV, header bits 30:16 (R140). -/
def headerRsv (h : Word) : BitVec 15 := h.extractLsb' 16 15

/-- ADDR, header bits 15:0 (R140). -/
def headerAddr (h : Word) : BitVec 16 := h.extractLsb' 0 16

/-- Why a header is ILLEGAL (R142, R147). Every one of these raises the same BusError. -/
inductive Illegal where
  /-- RSV is not 0. -/
  | reservedBits
  /-- ADDR[1:0] is not 0 (R104). -/
  | misaligned
  /-- No row of the opcode map matches: a reserved address, a write to an RO register or window, a read of ADC_DATA. -/
  | noRow
  /-- An AUDIO_OUT index at or above OUT_CAP. -/
  | audioIndex
deriving DecidableEq, Repr

/-- One row of the opcode map (R146): a header h is the row's when h and mask is match; `build` assembles the operands. -/
structure OpRow where
  matchBits : Word
  mask : Word
  build : BitVec 16 → Word → Instr

/-- Index of a CAP_I or AUDIO_OUT or CAP_Q entry at byte address `a` of a window that begins at `base` (R144). -/
def windowIndex (w : Nat) (base a : BitVec 16) : BitVec w := ((a - base) >>> 2).setWidth w

/-- The opcode map of R146, part 1. -/
def opRows1 : List OpRow := [
  ⟨0x80000000#32, 0xFFFFFFFF#32, fun _ data => .wrStatus data⟩,
  ⟨0x00000000#32, 0xFFFFFFFF#32, fun _ _ => .rdStatus⟩,
  ⟨0x80000004#32, 0xFFFFFFFF#32, fun _ data => .wrFreqOffset data⟩,
  ⟨0x00000004#32, 0xFFFFFFFF#32, fun _ _ => .rdFreqOffset⟩,
  ⟨0x00000008#32, 0xFFFFFFFF#32, fun _ _ => .rdFreqWord⟩,
  ⟨0x8000000C#32, 0xFFFFFFFF#32, fun _ data => .wrMode data⟩,
  ⟨0x0000000C#32, 0xFFFFFFFF#32, fun _ _ => .rdMode⟩,
  ⟨0x80000010#32, 0xFFFFFFFF#32, fun _ data => .wrBandwidth data⟩,
  ⟨0x00000010#32, 0xFFFFFFFF#32, fun _ _ => .rdBandwidth⟩,
  ⟨0x80000014#32, 0xFFFFFFFF#32, fun _ data => .wrAgcSpeed data⟩,
  ⟨0x00000014#32, 0xFFFFFFFF#32, fun _ _ => .rdAgcSpeed⟩,
  ⟨0x80000018#32, 0xFFFFFFFF#32, fun _ data => .wrCwSidetone data⟩]

/-- The opcode map of R146, part 2. -/
def opRows2 : List OpRow := [
  ⟨0x00000018#32, 0xFFFFFFFF#32, fun _ _ => .rdCwSidetone⟩,
  ⟨0x0000001C#32, 0xFFFFFFFF#32, fun _ _ => .rdSidetoneInc⟩,
  ⟨0x80000020#32, 0xFFFFFFFF#32, fun _ data => .wrGainCal data⟩,
  ⟨0x00000020#32, 0xFFFFFFFF#32, fun _ _ => .rdGainCal⟩,
  ⟨0x80000024#32, 0xFFFFFFFF#32, fun _ data => .wrVolume data⟩,
  ⟨0x00000024#32, 0xFFFFFFFF#32, fun _ _ => .rdVolume⟩,
  ⟨0x80000028#32, 0xFFFFFFFF#32, fun _ data => .wrSquelch data⟩,
  ⟨0x00000028#32, 0xFFFFFFFF#32, fun _ _ => .rdSquelch⟩,
  ⟨0x8000002C#32, 0xFFFFFFFF#32, fun _ data => .wrIqSwap data⟩,
  ⟨0x0000002C#32, 0xFFFFFFFF#32, fun _ _ => .rdIqSwap⟩,
  ⟨0x80000030#32, 0xFFFFFFFF#32, fun _ data => .wrPwmMax data⟩]

/-- The opcode map of R146, part 3. -/
def opRows3 : List OpRow := [
  ⟨0x00000030#32, 0xFFFFFFFF#32, fun _ _ => .rdPwmMax⟩,
  ⟨0x00000034#32, 0xFFFFFFFF#32, fun _ _ => .rdSignalStrength⟩,
  ⟨0x00000038#32, 0xFFFFFFFF#32, fun _ _ => .rdOutCount⟩,
  ⟨0x0000003C#32, 0xFFFFFFFF#32, fun _ _ => .rdBlockIndex⟩,
  ⟨0x80000040#32, 0xFFFFFFFF#32, fun _ data => .pushCode data⟩,
  ⟨0x00000044#32, 0xFFFFFFFF#32, fun _ _ => .rdCapSeq⟩,
  ⟨0x00000048#32, 0xFFFFFFFF#32, fun _ _ => .rdBlkSeq⟩,
  ⟨0x0000004C#32, 0xFFFFFFFF#32, fun _ _ => .rdPerfCycles⟩,
  ⟨0x00000400#32, 0xFFFFFC03#32, fun a _ => .rdCapI (windowIndex 8 0x0400#16 a)⟩,
  ⟨0x00000800#32, 0xFFFFFC03#32, fun a _ => .rdCapQ (windowIndex 8 0x0800#16 a)⟩,
  ⟨0x00001000#32, 0xFFFFF003#32, fun a _ => .rdAudioOut (windowIndex 10 0x1000#16 a)⟩]

/-- The opcode map: 34 rows, in the order of R146. -/
def opRows : List OpRow := opRows1 ++ opRows2 ++ opRows3

/-- Whether a header is the row's (R142). -/
def OpRow.hit (r : OpRow) (h : Word) : Bool := (h &&& r.mask) == r.matchBits

/-- `decode` of R142, for an audio block of `outCap` entries. -/
def decodeIn (outCap : Nat) (t : BusTxn) : Except Illegal Instr :=
  if headerRsv t.header ≠ 0 then .error .reservedBits
  else if (headerAddr t.header).extractLsb' 0 2 ≠ 0 then .error .misaligned
  else
    match opRows.find? (fun r => r.hit t.header) with
    | none => .error .noRow
    | some r =>
      if Instr.wf outCap (r.build (headerAddr t.header) t.data) then .ok (r.build (headerAddr t.header) t.data)
      else .error .audioIndex

/-- The decoder of the machine: `decodeIn` at the machine's OUT_CAP. -/
def decode (t : BusTxn) : Except Illegal Instr := decodeIn Config.chip.outCap t

/-- The transaction whose bits are `w`, bit 0 the least significant bit of the header, the data word above it (R140); bits at
`nbits` and above are 0. -/
def txnOfTableWord (nbits w : Nat) : BusTxn :=
  ⟨BitVec.ofNat 32 (w % 2 ^ nbits), BitVec.ofNat 32 ((w % 2 ^ nbits) / 2 ^ 32)⟩

/-- The instruction the decoder reads from the table word `w` of `nbits` bits. -/
def decodeTableWord (nbits w : Nat) : Option Instr := (decode (txnOfTableWord nbits w)).toOption

/-- Header of a write to the register at `a` (R150). -/
def writeHeader (a : BitVec 16) : Word := 0x80000000#32 ||| a.setWidth 32

/-- Header of a read of the register or window entry at `a` (R150). -/
def readHeader (a : BitVec 16) : Word := a.setWidth 32

/-- A write transaction (R150). -/
def writeTxn (a : BitVec 16) (data : Word) : BusTxn := ⟨writeHeader a, data⟩

/-- A read transaction, its ignored data word 0 (R150). -/
def readTxn (a : BitVec 16) : BusTxn := ⟨readHeader a, 0⟩

/-- The encoder: the words of a transaction, from the address map R101 and the encodings of R410 to R443. -/
def encode : Instr → BusTxn
  | .wrStatus data => writeTxn 0x0000#16 data
  | .rdStatus => readTxn 0x0000#16
  | .wrFreqOffset data => writeTxn 0x0004#16 data
  | .rdFreqOffset => readTxn 0x0004#16
  | .rdFreqWord => readTxn 0x0008#16
  | .wrMode data => writeTxn 0x000C#16 data
  | .rdMode => readTxn 0x000C#16
  | .wrBandwidth data => writeTxn 0x0010#16 data
  | .rdBandwidth => readTxn 0x0010#16
  | .wrAgcSpeed data => writeTxn 0x0014#16 data
  | .rdAgcSpeed => readTxn 0x0014#16
  | .wrCwSidetone data => writeTxn 0x0018#16 data
  | .rdCwSidetone => readTxn 0x0018#16
  | .rdSidetoneInc => readTxn 0x001C#16
  | .wrGainCal data => writeTxn 0x0020#16 data
  | .rdGainCal => readTxn 0x0020#16
  | .wrVolume data => writeTxn 0x0024#16 data
  | .rdVolume => readTxn 0x0024#16
  | .wrSquelch data => writeTxn 0x0028#16 data
  | .rdSquelch => readTxn 0x0028#16
  | .wrIqSwap data => writeTxn 0x002C#16 data
  | .rdIqSwap => readTxn 0x002C#16
  | .wrPwmMax data => writeTxn 0x0030#16 data
  | .rdPwmMax => readTxn 0x0030#16
  | .rdSignalStrength => readTxn 0x0034#16
  | .rdOutCount => readTxn 0x0038#16
  | .rdBlockIndex => readTxn 0x003C#16
  | .pushCode data => writeTxn 0x0040#16 data
  | .rdCapSeq => readTxn 0x0044#16
  | .rdBlkSeq => readTxn 0x0048#16
  | .rdPerfCycles => readTxn 0x004C#16
  | .rdCapI k => readTxn (0x0400#16 + (k.setWidth 16 <<< 2))
  | .rdCapQ k => readTxn (0x0800#16 + (k.setWidth 16 <<< 2))
  | .rdAudioOut k => readTxn (0x1000#16 + (k.setWidth 16 <<< 2))

end Sys2Proof
end

