-- ==== Sys2Proof/Machine/State.lean ====
section
/-!
DEFINITION. The state of the core as plain data (10_state.md), the reasons a step can stop, and the state after power-on reset
(70_reset_and_hazards.md R490, R491). Registers of a parametrised width are held in the widest width R8 admits (entry 8);
counts and indexes are natural numbers (entry 13).
-/
namespace Sys2Proof.Machine

/-- The demodulation mode, the value of MODE (R57): AM 0, FM 1, USB 2, LSB 3, CW 4; MODE never holds another value (entry 18). -/
inductive Mode where
  | am
  | fm
  | usb
  | lsb
  | cw
deriving DecidableEq, Repr

/-- One lane of a CIC instance: the integrators integ[1..4] and the comb delays dly[1..4] (R42). -/
structure CicLane where
  i1 : BitVec 64
  i2 : BitVec 64
  i3 : BitVec 64
  i4 : BitVec 64
  d1 : BitVec 64
  d2 : BitVec 64
  d3 : BitVec 64
  d4 : BitVec 64
deriving DecidableEq, Repr

/-- A CIC instance: two lanes and the decimation counter that serves both (R42, R43). -/
structure Cic where
  laneI : CicLane
  laneQ : CicLane
  cnt : Nat
deriving DecidableEq, Repr

/-- A lane with every register 0. -/
def CicLane.zero : CicLane := ⟨0, 0, 0, 0, 0, 0, 0, 0⟩

/-- A CIC instance with every register and the counter 0: its reset value (R42, R43). -/
def Cic.zero : Cic := ⟨.zero, .zero, 0⟩

/-- The state of the core. The last three fields are the bus side of the model: the response of the last transaction (R140), the
transactions delivered and not yet performed, and the model's own count of draws of PERF_CYCLES. -/
structure State where
  /-- NCO phase accumulator (R41). -/
  ncoPhase : BitVec 32
  /-- Main-path CIC (R42). -/
  cicMain : Cic
  /-- CW-path CIC (R43). -/
  cicCw : Cic
  /-- Half-band filter states, as codes (R44). -/
  hb1Main : Nat
  hb2Main : Nat
  hb1Cw : Nat
  hb2Cw : Nat
  /-- AM DC tracker, signed (R45). -/
  amAcc : BitVec 32
  /-- FM last phase, signed (R46). -/
  fmLast : Sample
  /-- SSB rotation index and filter state code (R47). -/
  ssbIdx : BitVec 2
  ssbFilt : Nat
  /-- CW magnitude register and sidetone phase (R48). -/
  cwMag : BitVec 16
  stPhase : BitVec 32
  /-- AGC peak-hold, signed, and hang countdown (R49). -/
  agcMaxHold : BitVec 64
  agcHang : BitVec 32
  /-- Block-processor working state (R50). -/
  blkN : Nat
  magSum : BitVec 64
  workBuf : List (BitVec 16)
  workCount : Nat
  capShI : List (BitVec 8)
  capShQ : List (BitVec 8)
  /-- STATUS bits 5:0 (R54). -/
  status : BitVec 6
  /-- Configuration registers (R55 to R66). -/
  freqOffset : Word
  freqWord : Word
  mode : Mode
  bandwidth : Word
  agcSpeed : BitVec 2
  cwSidetone : Word
  sidetoneInc : Word
  gainCal : Word
  volume : Word
  squelch : Word
  iqSwap : BitVec 1
  pwmMax : BitVec 16
  /-- Readouts (R67, R68, R71, R72). -/
  signalStrength : Word
  outCount : BitVec 11
  capSeq : Word
  blkSeq : Word
  /-- Published windows (R74, R75). -/
  capI : List (BitVec 8)
  capQ : List (BitVec 8)
  audioOut : List (BitVec 16)
  /-- The model's own: how often PERF_CYCLES has been read (entry 5). -/
  perfDraws : Nat
  /-- RDATA of the last transaction performed, `none` after a write and before any transaction (R140, entry 7). -/
  rdata : Option Word
  /-- Transactions delivered by the bus and not yet performed, the next one first (R109, entry 6). -/
  bus : List BusTxn
deriving DecidableEq, Repr

/-- Why a step can fault: never. The core raises no synchronous exception, never traps and never halts (R470, R473), so this
type has no constructor; nothing raises it, and that is safe. -/
inductive Fault where
deriving DecidableEq, Repr

/-- Why a step can be refused. -/
inductive Refusal where
  /-- The instruction has no meaning yet. Raised by no arm of `exec`. Safe: the model stops. -/
  | notModelled (mnemonic : String)
  /-- The configuration fails an item of R8, so it has no meaning (W1). Raised by `step` alone, and never for the configuration
  of this machine, which is well formed. Safe: the model stops. -/
  | illFormedConfiguration
deriving DecidableEq, Repr

/-- The state after power-on reset for a configuration (R490, R491). -/
def State.resetIn (c : Config) : State where
  ncoPhase := 0
  cicMain := .zero
  cicCw := .zero
  hb1Main := c.hb1.init
  hb2Main := c.hb2.init
  hb1Cw := c.hb1.init
  hb2Cw := c.hb2.init
  amAcc := 0
  fmLast := 0
  ssbIdx := 0
  ssbFilt := c.ssbFilt.init
  cwMag := 0
  stPhase := 0
  agcMaxHold := 0
  agcHang := 0
  blkN := 0
  magSum := 0
  workBuf := List.replicate c.outCap 0
  workCount := 0
  capShI := List.replicate c.capLen 0
  capShQ := List.replicate c.capLen 0
  status := 0
  freqOffset := 0
  freqWord := 0
  mode := .am
  bandwidth := 0
  agcSpeed := 0
  cwSidetone := 0
  sidetoneInc := 0
  gainCal := 0
  volume := 0
  squelch := 0
  iqSwap := 0
  pwmMax := 0
  signalStrength := 0
  outCount := 0
  capSeq := 0
  blkSeq := 0
  capI := List.replicate c.capLen 0
  capQ := List.replicate c.capLen 0
  audioOut := List.replicate c.outCap 0
  perfDraws := 0
  rdata := none
  bus := []

/-- The machine right after reset. -/
def State.reset : State := State.resetIn Config.chip

end Sys2Proof.Machine
end

