-- ==== Sys2Proof/Machine/Flags.lean ====
section
/-!
DEFINITION. The six sticky flags of STATUS (10_state.md R52, R54), who sets and clears them (46_host_transactions.md R410), and
the interrupt line they drive (60_exceptions.md R471).
-/
namespace Sys2Proof.Machine

/-- BLOCK_DONE, bit 0 (R54). -/
def flagBlockDone : BitVec 6 := 0b000001#6
/-- CAP_READY, bit 1 (R54). -/
def flagCapReady : BitVec 6 := 0b000010#6
/-- CIC_SAT, bit 2 (R54). -/
def flagCicSat : BitVec 6 := 0b000100#6
/-- CW_CIC_SAT, bit 3 (R54). -/
def flagCwCicSat : BitVec 6 := 0b001000#6
/-- OUT_OVF, bit 4 (R54). -/
def flagOutOvf : BitVec 6 := 0b010000#6
/-- BUS_ERR, bit 5 (R54). -/
def flagBusErr : BitVec 6 := 0b100000#6

/-- `csr.STATUS.F <- 1`: the core only sets a flag (R12, R52). -/
def State.setFlag (f : BitVec 6) (s : State) : State := { s with status := s.status ||| f }

/-- Sets a flag when a condition holds. -/
def State.setFlagIf (b : Bool) (f : BitVec 6) (s : State) : State := if b then s.setFlag f else s

/-- Write-1-to-clear: clears the flags of the mask and no other (R410). -/
def State.clearFlags (m : BitVec 6) (s : State) : State := { s with status := s.status &&& ~~~m }

/-- The level output `irq = STATUS.BLOCK_DONE or STATUS.CAP_READY` (R471). -/
def State.irq (s : State) : Bool := s.status.getLsbD 0 || s.status.getLsbD 1

end Sys2Proof.Machine
end

