-- ==== Sys2Proof/Machine/Operands.lean ====
section
/-!
DEFINITION. Operand assembly: the forms of a write's DATA word (30_encoding.md R143) and of a read's RDATA word (R145), and the
codes of MODE (10_state.md R57).
-/
namespace Sys2Proof.Machine

/-- Form `signed32`: `sext_32(DATA)` (R143). -/
def formSigned32 (data : Word) : Int := data.toInt

/-- Form `unsigned32`: `zext_32(DATA)` (R143). -/
def formUnsigned32 (data : Word) : Nat := data.toNat

/-- Form `opaque32`: the pattern unchanged (R143). -/
def formOpaque32 (data : Word) : Word := data

/-- Form `bit0`: `DATA[0]` (R143). -/
def formBit0 (data : Word) : BitVec 1 := data.extractLsb' 0 1

/-- Form `mask`: `DATA[5:0]` (R143). -/
def formMask (data : Word) : BitVec 6 := data.extractLsb' 0 6

/-- Form `code`: the 16-bit container `DATA[15:0]`; the engine takes its low ADC_BITS bits (R143, R201, R437). -/
def formCode (data : Word) : BitVec 16 := data.extractLsb' 0 16

/-- The code of a mode (R57). -/
def modeCode : Mode → Nat
  | .am => 0
  | .fm => 1
  | .usb => 2
  | .lsb => 3
  | .cw => 4

/-- The mode of a code, none above 4 (R57). -/
def modeOfCode : Nat → Option Mode
  | 0 => some .am
  | 1 => some .fm
  | 2 => some .usb
  | 3 => some .lsb
  | 4 => some .cw
  | _ => none

/-- RDATA of an unsigned field: zero-extended (R145). -/
def rdataUnsigned {w : Nat} (v : BitVec w) : Word := v.setWidth 32

/-- RDATA of a capture entry: sign-extended from 8 to 32 bits (R145). -/
def rdataSigned8 (v : BitVec 8) : Word := v.signExtend 32

/-- RDATA of a count (R145). -/
def rdataCount (n : Nat) : Word := BitVec.ofNat 32 n

end Sys2Proof.Machine
end

