-- ==== Sys2Proof/Machine/Ops.lean ====
section
/-!
DEFINITION. The named operations over the bus side of the state and over buffers: the response of a read, the completion of a
write, the delivery and the taking of a transaction, the entry of a window, and BusError, the core's only exception
(00_scope.md R14, 30_encoding.md R147). There is no return from it (60_exceptions.md R474).
-/
namespace Sys2Proof.Machine

/-- The outcome of a transaction. -/
abbrev Out := Host.Outcome State Fault Refusal

/-- A read transaction returns one response word (R140). -/
def State.respond (v : Word) (s : State) : State := { s with rdata := some v }

/-- A write transaction returns nothing (R140). -/
def State.noResponse (s : State) : State := { s with rdata := none }

/-- `raise BusError`: the one shared exception entry (R14, R147). It sets BUS_ERR; a read returns 0, a write returns nothing; no
other state changes and the engine does not step. Nothing of the cause is recorded (R470). -/
def busError (header : Word) (s : State) : State :=
  if headerW header then (s.setFlag flagBusErr).noResponse else (s.setFlag flagBusErr).respond 0

/-- A bus master's transaction reaches the core, behind those delivered before it (R109). An event outside the core. -/
def State.deliver (t : BusTxn) (s : State) : State := { s with bus := s.bus ++ [t] }

/-- Takes the next transaction in the bus order (R109, R445). -/
def State.takeTxn (s : State) : Option (BusTxn × State) :=
  match s.bus with
  | [] => none
  | t :: rest => some (t, { s with bus := rest })

/-- Puts a transaction first in the bus order. -/
def State.putTxn (t : BusTxn) (s : State) : State := { s with bus := t :: s.bus }

/-- Entry k of a buffer. Every index a rule uses is inside the buffer's length (entry 14). -/
def entry {w : Nat} (b : List (BitVec w)) (k : Nat) : BitVec w := b.getD k 0

end Sys2Proof.Machine
end

