-- ==== Sys2Proof/Machine/CicFilter.lean ====
section
/-!
DEFINITION. The CIC decimator, one component with its width, decimation factor and shift as parameters (42_cic_decimator.md R280
to R285).
-/
namespace Sys2Proof.Machine

/-- INTEGRATE: each stage adds the value its predecessor has just been given (R281). -/
def integrate (w : Nat) (x : Sample) (l : CicLane) : CicLane :=
  let a1 := reg64 w (l.i1.toNat + x.toInt)
  let a2 := reg64 w (l.i2.toNat + a1.toNat)
  let a3 := reg64 w (l.i3.toNat + a2.toNat)
  let a4 := reg64 w (l.i4.toNat + a3.toNat)
  { l with i1 := a1, i2 := a2, i3 := a3, i4 := a4 }

/-- COMB: four differences against the delayed copies; the signed result and the lane with its delays written (R283). -/
def comb (w : Nat) (l : CicLane) : Int × CicLane :=
  let v0 := l.i4
  let v1 := reg64 w (v0.toNat - l.d1.toNat)
  let v2 := reg64 w (v1.toNat - l.d2.toNat)
  let v3 := reg64 w (v2.toNat - l.d3.toNat)
  let v4 := reg64 w (v3.toNat - l.d4.toNat)
  (sext w v4.toNat, { l with d1 := v0, d2 := v1, d3 := v2, d4 := v3 })

/-- CIC_OUT: the shifted comb result, saturated, and whether it was clamped (R284). -/
def cicOut (sh : Nat) (v : Int) : Sample × Bool :=
  (toSample (sat16 (asr v sh)), decide (sat16 (asr v sh) ≠ asr v sh))

/-- What CIC_STEP gives: the instance after it, the decimated sample if one was produced (R285), and whether a lane of it was
clamped (R284). -/
structure CicResult where
  cic : Cic
  out : Option Pair
  sat : Bool
deriving DecidableEq, Repr

/-- CIC_STEP for width w, factor r and shift sh (R280, R282). -/
def cicStep (w r sh : Nat) (x : Pair) (C : Cic) : CicResult :=
  let li := integrate w x.i C.laneI
  let lq := integrate w x.q C.laneQ
  if C.cnt + 1 < r then ⟨⟨li, lq, C.cnt + 1⟩, none, false⟩
  else
    let ci := comb w li
    let cq := comb w lq
    let yi := cicOut sh ci.1
    let yq := cicOut sh cq.1
    ⟨⟨ci.2, cq.2, 0⟩, some ⟨yi.1, yq.1⟩, yi.2 || yq.2⟩

end Sys2Proof.Machine
end

