-- ==== Sys2Proof/Machine/Halfband.lean ====
section
/-!
DEFINITION. The half-band filter controller: one cascade, run on the main path and on the CW path with their own state
(43_halfband_controller.md R313 to R317).
-/
namespace Sys2Proof.Machine

/-- What a cascade gives: its CIC and half-band states after the call, the sample if every stage was ready, and whether the CIC
clamped its output. -/
structure CascadeResult where
  cic : Cic
  hb1 : Nat
  hb2 : Nat
  out : Option Pair
  sat : Bool
deriving DecidableEq, Repr

/-- The cascade after the CIC has run: HB1 is called only on a CIC sample, HB2 only on an HB1 sample (R313, R315). The value
passed on is the collaborator's output (R316), and BANDWIDTH is passed unchanged (R317). -/
def halfbands (c : Config) (bw : Word) (r : CicResult) (hb1 hb2 : Nat) : CascadeResult :=
  match r.out with
  | none => ⟨r.cic, hb1, hb2, none, r.sat⟩
  | some x1 =>
    match c.hb1.step hb1 x1 bw with
    | (st1, none) => ⟨r.cic, st1, hb2, none, r.sat⟩
    | (st1, some x2) =>
      match c.hb2.step hb2 x2 bw with
      | (st2, out) => ⟨r.cic, st1, st2, out, r.sat⟩

/-- The call of the main path's cascade on the pair `x` (R313). -/
def mainCall (c : Config) (x : Pair) (s : State) : CascadeResult :=
  halfbands c s.bandwidth (cicStep c.wCic c.rMain c.cicShiftMain x s.cicMain) s.hb1Main s.hb2Main

/-- MAIN_CASCADE (R313), with the flag of its CIC (R284). -/
def mainCascade (c : Config) (x : Pair) (s : State) : Option Pair × State :=
  let r := mainCall c x s
  (r.out, { s with cicMain := r.cic, hb1Main := r.hb1, hb2Main := r.hb2 }.setFlagIf r.sat flagCicSat)

/-- The call of the CW path's cascade on the final-ready pair `x` (R314, R340). -/
def cwCall (c : Config) (x : Pair) (s : State) : CascadeResult :=
  halfbands c s.bandwidth (cicStep c.wCic c.rCw c.cicShiftCw x s.cicCw) s.hb1Cw s.hb2Cw

/-- CW_CASCADE (R314, R340), with the flag of its CIC (R284). -/
def cwCascade (c : Config) (x : Pair) (s : State) : Option Pair × State :=
  let r := cwCall c x s
  (r.out, { s with cicCw := r.cic, hb1Cw := r.hb1, hb2Cw := r.hb2 }.setFlagIf r.sat flagCwCicSat)

end Sys2Proof.Machine
end

