-- ==== Sys2Proof/Machine/Mixer.lean ====
section
/-!
DEFINITION. The look-up tables, the NCO phase accumulator and the I/Q mixer (41_nco_mixer.md R250 to R256), and the tuning
formulas of the NCO and of the sidetone (R255, 44_demodulator.md R342).
-/
namespace Sys2Proof.Machine

/-- The first half turn of the sine table from its first quarter, by the symmetry of R250. -/
def sinHalf (c : Config) (k : Nat) : Int :=
  if k ≤ c.lutSize / 4 then c.lutQuarter k else c.lutQuarter (c.lutSize / 2 - k)

/-- SIN_LUT[k] (R250). -/
def sinLut (c : Config) (k : Nat) : Int :=
  if k < c.lutSize / 2 then sinHalf c k else -sinHalf c (k - c.lutSize / 2)

/-- COS_LUT[k] = SIN_LUT[umod_LUT_BITS(k + LUT_SIZE/4)] (R251). -/
def cosLut (c : Config) (k : Nat) : Int := sinLut c (umod c.lutBits (k + c.lutSize / 4 : Nat))

/-- `idx(ph)`, the top LUT_BITS bits of a phase (R252). -/
def lutIndex (c : Config) (ph : BitVec 32) : Nat := (asr ph.toNat c.phaseToIndex).toNat

/-- NCO_MIX, the rotation by minus the phase (R253). -/
def ncoRotate (c : Config) (ph : BitVec 32) (x : Pair) : Pair :=
  let co := cosLut c (lutIndex c ph)
  let si := sinLut c (lutIndex c ph)
  let i := x.i.toInt
  let q := x.q.toInt
  ⟨toSample (sat16 (asr (i * co - q * -si) c.sLut)), toSample (sat16 (asr (q * co + i * -si) c.sLut))⟩

/-- NCO_ADVANCE, modulo 2^W_PHASE (R254). -/
def ncoAdvance (c : Config) (s : State) : State :=
  { s with ncoPhase := reg32 c.wPhase (s.ncoPhase.toNat + s.freqWord.toNat) }

/-- FREQ_WORD_OF (R255). -/
def freqWordOf (c : Config) (f : Int) : Word := reg32 c.wPhase (rhaz (f * 2 ^ c.wPhase) c.fS)

/-- SIDETONE_INC_OF, with F_DEC = F_S / R_TOTAL taken exactly (R342, R7). -/
def sidetoneIncOf (c : Config) (f : Nat) : Word :=
  reg32 c.wPhase (rhaz (f * 2 ^ c.wPhase * c.rTotal) c.fS)

end Sys2Proof.Machine
end

