-- ==== Sys2Proof/Machine/Demod.lean ====
section
/-!
DEFINITION. The demodulator: AM, FM, USB, LSB, CW (44_demodulator.md R330 to R345). A result `none` says that the SSB filter
broke its law and gave no sample, so there is no audio this call (93_implementation_defined.md W2, entry 9).
-/
namespace Sys2Proof.Machine

/-- DEMOD_AM: the tracker is updated first, and the output uses the updated estimate (R333). -/
def demodAm (c : Config) (x : Pair) (s : State) : Option Sample × State :=
  let m : Int := (c.mag x.i x.q).toNat
  let acc := BitVec.ofInt 32 (s.amAcc.toInt + m - asr s.amAcc.toInt c.kAm)
  (some (toSample (sat16 (m - asr acc.toInt c.kAm))), { s with amAcc := acc })

/-- DEMOD_FM: the phase difference, wrapped (R334). -/
def demodFm (c : Config) (x : Pair) (s : State) : Option Sample × State :=
  let p := c.phase x.i x.q
  (some (toSample (wrap 16 (p.toInt - s.fmLast.toInt))), { s with fmLast := p })

/-- The saturated negation `sat16(-v)` of a lane (R335, R336). -/
def negSat (v : Sample) : Sample := toSample (sat16 (-v.toInt))

/-- ROT: multiplication by j^k (R335). -/
def ssbRot (k : BitVec 2) (x : Pair) : Pair :=
  if k = 0 then x
  else if k = 1 then ⟨negSat x.q, x.i⟩
  else if k = 2 then ⟨negSat x.i, negSat x.q⟩
  else ⟨x.q, negSat x.i⟩

/-- SEL: the real part of the product by (-j)^k (R336). -/
def ssbSel (k : BitVec 2) (f : Pair) : Sample :=
  if k = 0 then f.i
  else if k = 1 then f.q
  else if k = 2 then negSat f.i
  else negSat f.q

/-- The shared SSB call: rotate, filter and select with the index, then move the index by `d` modulo 4 (R338, R339). -/
def demodSsb (c : Config) (d : BitVec 2) (x : Pair) (s : State) : Option Sample × State :=
  let k := s.ssbIdx
  let r := c.ssbFilt.step s.ssbFilt (ssbRot k x) s.bandwidth
  (r.2.map (ssbSel k), { s with ssbFilt := r.1, ssbIdx := k + d })

/-- DEMOD_USB: the index advances by +1 (R338). -/
def demodUsb (c : Config) (x : Pair) (s : State) : Option Sample × State := demodSsb c 1 x s

/-- DEMOD_LSB: the index advances by -1 (R339). -/
def demodLsb (c : Config) (x : Pair) (s : State) : Option Sample × State := demodSsb c (-1) x s

/-- The CW magnitude register takes a new magnitude when the CW cascade has a sample, else it keeps its value (R341). -/
def cwMagnitude (c : Config) (r : Option Pair) (s : State) : State :=
  match r with
  | none => s
  | some y => { s with cwMag := c.mag y.i y.q }

/-- The sidetone: the magnitude register scaled by the sine at the sidetone phase, then the phase advances (R343). -/
def cwTone (c : Config) (s : State) : Sample × State :=
  (toSample (sat16 (asr (s.cwMag.toNat * sinLut c (lutIndex c s.stPhase)) c.sLut)),
    { s with stPhase := reg32 c.wPhase (s.stPhase.toNat + s.sidetoneInc.toNat) })

/-- DEMOD_CW (R340, R341, R343). -/
def demodCw (c : Config) (x : Pair) (s : State) : Option Sample × State :=
  let r := cwCascade c x s
  let t := cwTone c (cwMagnitude c r.1 r.2)
  (some t.1, t.2)

/-- DEMOD: the rule of the selected mode (R330). -/
def demod (c : Config) (x : Pair) (s : State) : Option Sample × State :=
  match s.mode with
  | .am => demodAm c x s
  | .fm => demodFm c x s
  | .usb => demodUsb c x s
  | .lsb => demodLsb c x s
  | .cw => demodCw c x s

/-- MODE_ENTER: resets the group of the mode entered and nothing else (R345). -/
def modeEnter (c : Config) (m : Mode) (s : State) : State :=
  match m with
  | .am => { s with amAcc := 0 }
  | .fm => { s with fmLast := 0 }
  | .usb => { s with ssbIdx := 0, ssbFilt := c.ssbFilt.init }
  | .lsb => { s with ssbIdx := 0, ssbFilt := c.ssbFilt.init }
  | .cw => { s with cicCw := .zero, hb1Cw := c.hb1.init, hb2Cw := c.hb2.init, cwMag := 0, stPhase := 0 }

end Sys2Proof.Machine
end

