-- ==== Sys2Proof/Machine/ModeSelect.lean ====
section
/-!
DEFINITION. The mode and bandwidth transactions (46_host_transactions.md R415 to R418).
-/
namespace Sys2Proof.Machine

/-- Selects a mode: a change runs MODE_ENTER, a write of the mode already held does nothing (R415, R345). -/
def selectMode (c : Config) (m : Mode) (s : State) : State :=
  if m = s.mode then s else modeEnter c m { s with mode := m }

/-- A write of MODE: a value above 4 is ignored (R415). -/
def writeMode (c : Config) (v : Nat) (s : State) : State :=
  match modeOfCode v with
  | none => s
  | some m => selectMode c m s

/-- WR_MODE (R415). -/
def execWrMode (data : Word) (s : State) : Out :=
  .next (writeMode Config.chip (formUnsigned32 data) s).noResponse

/-- RD_MODE (R416). -/
def execRdMode (s : State) : Out := .next (s.respond (rdataCount (modeCode s.mode)))

/-- WR_BANDWIDTH (R417). -/
def execWrBandwidth (data : Word) (s : State) : Out :=
  .next (State.noResponse { s with bandwidth := formOpaque32 data })

/-- RD_BANDWIDTH (R418). -/
def execRdBandwidth (s : State) : Out := .next (s.respond (s.bandwidth))

end Sys2Proof.Machine
end

