-- ==== Sys2Proof/Machine/Readouts.lean ====
section
/-!
DEFINITION. The readouts, the handoff counters and the measurement (46_host_transactions.md R434 to R436, R438 to R440).
-/
namespace Sys2Proof.Machine

/-- RD_SIGNAL_STRENGTH (R434). -/
def execRdSignalStrength (s : State) : Out := .next (s.respond (s.signalStrength))

/-- RD_OUT_COUNT (R435). -/
def execRdOutCount (s : State) : Out := .next (s.respond (rdataUnsigned s.outCount))

/-- RD_BLOCK_INDEX (R436). -/
def execRdBlockIndex (s : State) : Out := .next (s.respond (rdataCount s.blkN))

/-- RD_CAP_SEQ (R438). -/
def execRdCapSeq (s : State) : Out := .next (s.respond (s.capSeq))

/-- RD_BLK_SEQ (R439). -/
def execRdBlkSeq (s : State) : Out := .next (s.respond (s.blkSeq))

/-- RD_PERF_CYCLES (R440): a fresh free value, drawn by the count of the reads before it (R73, entry 5). -/
def execRdPerfCycles (s : State) : Out :=
  .next (State.respond (Config.chip.perfCycles s.perfDraws) { s with perfDraws := s.perfDraws + 1 })

end Sys2Proof.Machine
end

