-- ==== Sys2Proof/Machine/Agc.lean ====
section
/-!
DEFINITION. The automatic gain control (45_agc.md R380 to R390). The post-AGC stage R391 is the field `postAgc` of the
configuration.
-/
namespace Sys2Proof.Machine

/-- The detector's state: `agc_max_hold` and `agc_hang` (R381). -/
structure Detector where
  hold : BitVec 64
  hang : BitVec 32
deriving DecidableEq, Repr

/-- AGC_PRESETS[AGC_SPEED] (R389, R390). -/
def agcPreset (c : Config) (speed : BitVec 2) : AgcPreset :=
  if speed = 0 then c.agcPresets.fast
  else if speed = 1 then c.agcPresets.medium
  else if speed = 2 then c.agcPresets.slow
  else c.agcPresets.long

/-- The detector input `e = abs(x) * 2^E` (R381). -/
def agcInput (c : Config) (x : Sample) : Int := (x.toInt.natAbs : Int) * 2 ^ c.agcExtra

/-- ATTACK (R382). -/
def agcAttack (e : Int) (p : AgcPreset) (d : Detector) : Detector :=
  ⟨BitVec.ofInt 64 (d.hold.toInt + asr (e - d.hold.toInt) p.att), BitVec.ofNat 32 p.hang⟩

/-- HANG (R383). -/
def agcHangPhase (d : Detector) : Detector := ⟨d.hold, d.hang - 1⟩

/-- DECAY (R384). -/
def agcDecay (p : AgcPreset) (d : Detector) : Detector :=
  ⟨BitVec.ofInt 64 (d.hold.toInt - asr d.hold.toInt p.dec), d.hang⟩

/-- AGC_DETECT: exactly one of attack, hang and decay, in this order of conditions (R381). -/
def agcDetect (c : Config) (p : AgcPreset) (x : Sample) (d : Detector) : Detector :=
  if d.hold.toInt < agcInput c x then agcAttack (agcInput c x) p d
  else if 0 < d.hang.toNat then agcHangPhase d
  else agcDecay p d

/-- The peak at working scale (R385). -/
def agcPeak (c : Config) (d : Detector) : Int := asr d.hold.toInt c.agcExtra

/-- AGC_GAIN: the reciprocal gain, or pass-through at a peak of 0 or less (R386). -/
def agcGain (c : Config) (x peak : Int) : Int :=
  if peak ≤ 0 then x else asr (x * fdiv (c.agcSetpoint * 2 ^ c.agcGainFrac) peak) c.agcGainFrac

/-- SOFT_CLIP: the excess over the setpoint is halved toward zero (R387). -/
def softClip (sp y : Int) : Int :=
  if sp < y then sp + asr (y - sp) 1
  else if y < -sp then -(sp + asr (-y - sp) 1)
  else y

/-- The AGC's output for a sample and a peak: gain, soft clip, hard clamp (R386 to R388). -/
def agcOutput (c : Config) (x : Sample) (peak : Int) : Sample :=
  toSample (sat16 (softClip c.agcSetpoint (agcGain c x.toInt peak)))

/-- AGC: the detector first, then the gain of the updated peak (R380). -/
def agc (c : Config) (x : Sample) (s : State) : Sample × State :=
  let d := agcDetect c (agcPreset c s.agcSpeed) x ⟨s.agcMaxHold, s.agcHang⟩
  (agcOutput c x (agcPeak c d), { s with agcMaxHold := d.hold, agcHang := d.hang })

end Sys2Proof.Machine
end

