-- ==== Sys2Proof/Machine/BlockProcessor.lean ====
section
/-!
DEFINITION. The block processor: the input stage, the capture window, the signal-strength accumulator, the output stage, the
block end, and the engine step that one PUSH_CODE runs (40_block_processor.md R200 to R217).
-/
namespace Sys2Proof.Machine

/-- ZERO_CENTRE: the low ADC_BITS bits of the container less MID (R201). -/
def zeroCentre (c : Config) (d : BitVec 16) : Sample := toSample ((d.toNat % 2 ^ c.adcBits : Nat) - (c.mid : Int))

/-- SPLIT: even index I, odd index Q, the other lane 0 (R202). -/
def splitSample (raw : Sample) (n : Nat) : Pair := if n % 2 = 0 then ⟨raw, 0⟩ else ⟨0, raw⟩

/-- IQ_SWAP: exchanges the lanes when the flag is 1 (R203). -/
def swapPair (swap : BitVec 1) (x : Pair) : Pair := if swap = 1 then ⟨x.q, x.i⟩ else x

/-- The pair of a code: zero-centred, split and swapped (R201 to R203). -/
def inputPair (c : Config) (d : BitVec 16) (s : State) : Pair :=
  swapPair s.iqSwap (splitSample (zeroCentre c d) s.blkN)

/-- A captured sample: `asr(v, CAP_SHIFT)` in a signed byte (R204). -/
def captureEntry (c : Config) (v : Sample) : BitVec 8 := BitVec.ofInt 8 (asr v.toInt c.capShift)

/-- CAPTURE, the write into the shadow buffers for the first CAP_LEN indices of a block (R204). -/
def captureWrite (c : Config) (x : Pair) (s : State) : State :=
  if s.blkN < c.capLen then
    { s with
      capShI := s.capShI.set s.blkN (captureEntry c x.i)
      capShQ := s.capShQ.set s.blkN (captureEntry c x.q) }
  else s

/-- CAPTURE, the publication in the step of index CAP_LEN - 1 (R205). -/
def capturePublish (c : Config) (s : State) : State :=
  if s.blkN + 1 = c.capLen then
    { s with capI := s.capShI, capQ := s.capShQ, capSeq := s.capSeq + 1 }.setFlag flagCapReady
  else s

/-- SS_ACCUMULATE (R208). -/
def ssAccumulate (c : Config) (x : Pair) (s : State) : State :=
  { s with magSum := s.magSum + (c.mag x.i x.q).setWidth 64 }

/-- PWM_SCALE: `fdiv((y2 + 32768) * PWM_MAX, 65536)` (R210). -/
def pwmScale (y : Sample) (pwmMax : BitVec 16) : BitVec 16 :=
  BitVec.ofInt 16 (fdiv ((y.toInt + 32768) * pwmMax.toNat) 65536)

/-- One copy of EMIT: kept below OUT_CAP, else dropped with OUT_OVF (R211). -/
def emitOne (c : Config) (p : BitVec 16) (s : State) : State :=
  if s.workCount < c.outCap then
    { s with workBuf := s.workBuf.set s.workCount p, workCount := s.workCount + 1 }
  else s.setFlag flagOutOvf

/-- EMIT: n copies of p (R211, with n = INTERP). -/
def emit (c : Config) (p : BitVec 16) : Nat → State → State
  | 0, s => s
  | n + 1, s => emit c p n (emitOne c p s)

/-- The audio stages after the demodulator: AGC, post-AGC stage, PWM scale, emission (R209, R391, R210, R211). -/
def audioStages (c : Config) (a : Sample) (s : State) : State :=
  let y := agc c a s
  emit c (pwmScale (c.postAgc y.1 s.volume s.squelch) s.pwmMax) c.interp y.2

/-- What a final-ready sample runs (R207 to R211). -/
def finalReady (c : Config) (x : Pair) (s : State) : State :=
  match demod c x (ssAccumulate c x s) with
  | (none, s1) => s1
  | (some a, s1) => audioStages c a s1

/-- BLOCK_END, signal strength (R213). -/
def blockEndStrength (c : Config) (s : State) : State :=
  { s with signalStrength := BitVec.ofNat 32 (min (s.magSum.toNat * c.rTotal / c.nBlock) (2 ^ 32 - 1)) }

/-- BLOCK_END, audio publication with zero fill (R214). -/
def blockEndAudio (c : Config) (s : State) : State :=
  { s with
    audioOut := s.workBuf.take s.workCount ++ List.replicate (c.outCap - s.workCount) 0
    outCount := BitVec.ofNat 11 s.workCount }

/-- BLOCK_END, sequencing (R215). -/
def blockEndSequence (s : State) : State :=
  { s with blkSeq := s.blkSeq + 1, magSum := 0, workCount := 0, blkN := 0 }.setFlag flagBlockDone

/-- BLOCK_END: R213, R214, R215 in that order (R212). -/
def blockEnd (c : Config) (s : State) : State := blockEndSequence (blockEndAudio c (blockEndStrength c s))

/-- ADVANCE_INDEX (R212). -/
def advanceIndex (c : Config) (s : State) : State :=
  if s.blkN + 1 = c.nBlock then blockEnd c { s with blkN := s.blkN + 1 } else { s with blkN := s.blkN + 1 }

/-- What follows the cascade: nothing without a final-ready sample (R207). -/
def afterCascade (c : Config) (r : Option Pair) (s : State) : State :=
  match r with
  | none => s
  | some x => finalReady c x s

/-- The engine up to the cascade: capture, mixer, phase advance (R200, R206). -/
def frontEnd (c : Config) (x : Pair) (s : State) : State :=
  ncoAdvance c (capturePublish c (captureWrite c x s))

/-- ENGINE_STEP (R200). -/
def engineStep (c : Config) (d : BitVec 16) (s : State) : State :=
  let x := inputPair c d s
  let r := mainCascade c (ncoRotate c s.ncoPhase x) (frontEnd c x s)
  advanceIndex c (afterCascade c r.1 r.2)

end Sys2Proof.Machine
end

