-- ==== Sys2Proof/Machine/SampleInput.lean ====
section
/-!
DEFINITION. The sample input: PUSH_CODE runs one engine step (46_host_transactions.md R437).
-/
namespace Sys2Proof.Machine

/-- PUSH_CODE (R437): ENGINE_STEP of the container, one atomic step; data bits 31:16 are ignored. -/
def execPushCode (data : Word) (s : State) : Out :=
  .next (engineStep Config.chip (formCode data) s).noResponse

end Sys2Proof.Machine
end

