-- ==== Sys2Proof/Machine/Settings.lean ====
section
/-!
DEFINITION. AGC speed, CW sidetone, calibration, volume, squelch, swap and scale (46_host_transactions.md R419 to R433).
-/
namespace Sys2Proof.Machine

/-- WR_AGC_SPEED (R419): clamped to 3; the AGC state is not touched (R390). -/
def execWrAgcSpeed (data : Word) (s : State) : Out :=
  .next (State.noResponse { s with agcSpeed := BitVec.ofNat 2 (min (formUnsigned32 data) 3) })

/-- RD_AGC_SPEED (R420). -/
def execRdAgcSpeed (s : State) : Out := .next (s.respond (rdataUnsigned s.agcSpeed))

/-- The stored sidetone frequency: DATA clamped to floor(F_DEC/2), F_DEC = F_S / R_TOTAL (R421, R7). -/
def clampSidetone (c : Config) (v : Nat) : Nat := min v (c.fS / (2 * c.rTotal))

/-- Writes CW_SIDETONE and recomputes SIDETONE_INC; `st_phase` is not touched (R421). -/
def setSidetone (c : Config) (v : Nat) (s : State) : State :=
  { s with cwSidetone := BitVec.ofNat 32 (clampSidetone c v), sidetoneInc := sidetoneIncOf c (clampSidetone c v) }

/-- WR_CW_SIDETONE (R421). -/
def execWrCwSidetone (data : Word) (s : State) : Out :=
  .next (setSidetone Config.chip (formUnsigned32 data) s).noResponse

/-- RD_CW_SIDETONE (R422). -/
def execRdCwSidetone (s : State) : Out := .next (s.respond (rdataUnsigned s.cwSidetone))

/-- RD_SIDETONE_INC (R423). -/
def execRdSidetoneInc (s : State) : Out := .next (s.respond (rdataUnsigned s.sidetoneInc))

/-- WR_GAIN_CAL (R424): stored; no rule of the core reads it. -/
def execWrGainCal (data : Word) (s : State) : Out :=
  .next (State.noResponse { s with gainCal := formOpaque32 data })

/-- RD_GAIN_CAL (R425). -/
def execRdGainCal (s : State) : Out := .next (s.respond (s.gainCal))

/-- WR_VOLUME (R426). -/
def execWrVolume (data : Word) (s : State) : Out :=
  .next (State.noResponse { s with volume := formOpaque32 data })

/-- RD_VOLUME (R427). -/
def execRdVolume (s : State) : Out := .next (s.respond (s.volume))

/-- WR_SQUELCH (R428). -/
def execWrSquelch (data : Word) (s : State) : Out :=
  .next (State.noResponse { s with squelch := formOpaque32 data })

/-- RD_SQUELCH (R429). -/
def execRdSquelch (s : State) : Out := .next (s.respond (s.squelch))

/-- WR_IQ_SWAP (R430). -/
def execWrIqSwap (data : Word) (s : State) : Out :=
  .next (State.noResponse { s with iqSwap := formBit0 data })

/-- RD_IQ_SWAP (R431). -/
def execRdIqSwap (s : State) : Out := .next (s.respond (rdataUnsigned s.iqSwap))

/-- WR_PWM_MAX (R432): clamped to 65535. -/
def execWrPwmMax (data : Word) (s : State) : Out :=
  .next (State.noResponse { s with pwmMax := BitVec.ofNat 16 (min (formUnsigned32 data) 65535) })

/-- RD_PWM_MAX (R433). -/
def execRdPwmMax (s : State) : Out := .next (s.respond (rdataUnsigned s.pwmMax))

end Sys2Proof.Machine
end

