-- ==== Sys2Proof/Machine/Status.lean ====
section
/-!
DEFINITION. The STATUS transactions (46_host_transactions.md R410, R411).
-/
namespace Sys2Proof.Machine

/-- WR_STATUS (R410): write-1-to-clear. -/
def execWrStatus (data : Word) (s : State) : Out :=
  .next (s.clearFlags (formMask data)).noResponse

/-- RD_STATUS (R411); it clears no flag. -/
def execRdStatus (s : State) : Out := .next (s.respond (rdataUnsigned s.status))

end Sys2Proof.Machine
end

