-- ==== Sys2Proof/Machine/Tuning.lean ====
section
/-!
DEFINITION. The tuning transactions (46_host_transactions.md R412 to R414).
-/
namespace Sys2Proof.Machine

/-- The stored offset: DATA clamped to [-floor(F_S/2), floor(F_S/2)] (R412). -/
def clampOffset (c : Config) (v : Int) : Int := clamp v (-(c.fS / 2 : Nat)) (c.fS / 2 : Nat)

/-- Writes FREQ_OFFSET and recomputes FREQ_WORD; `nco_phase` is not touched (R412, R256). -/
def tune (c : Config) (v : Int) (s : State) : State :=
  { s with freqOffset := BitVec.ofInt 32 (clampOffset c v), freqWord := freqWordOf c (clampOffset c v) }

/-- WR_FREQ_OFFSET (R412). -/
def execWrFreqOffset (data : Word) (s : State) : Out :=
  .next (tune Config.chip (formSigned32 data) s).noResponse

/-- RD_FREQ_OFFSET (R413): the stored, clamped value. -/
def execRdFreqOffset (s : State) : Out := .next (s.respond (s.freqOffset))

/-- RD_FREQ_WORD (R414). -/
def execRdFreqWord (s : State) : Out := .next (s.respond (rdataUnsigned s.freqWord))

end Sys2Proof.Machine
end

