-- ==== Sys2Proof/Machine/Windows.lean ====
section
/-!
DEFINITION. The window reads (46_host_transactions.md R441 to R443).
-/
namespace Sys2Proof.Machine

/-- RD_CAP_I (R441): the entry of the last published window, sign-extended. -/
def execRdCapI (k : BitVec 8) (s : State) : Out := .next (s.respond (rdataSigned8 (entry s.capI k.toNat)))

/-- RD_CAP_Q (R442): the entry of the last published window, sign-extended. -/
def execRdCapQ (k : BitVec 8) (s : State) : Out := .next (s.respond (rdataSigned8 (entry s.capQ k.toNat)))

/-- RD_AUDIO_OUT (R443): the entry of the last published block, zero-extended. -/
def execRdAudioOut (k : BitVec 10) (s : State) : Out := .next (s.respond (rdataUnsigned (entry s.audioOut k.toNat)))

end Sys2Proof.Machine
end

