-- ==== Sys2Proof/Machine/Dispatch.lean ====
section
/-!
DEFINITION. One arm per transaction: the meaning of each, in the table's order (30_encoding.md R146).
-/
namespace Sys2Proof.Machine

def exec (i : Instr) (s : State) : Host.Outcome State Fault Refusal :=
  match i with
  | .wrStatus data => Sys2Proof.Machine.execWrStatus data s
  | .rdStatus => Sys2Proof.Machine.execRdStatus s
  | .wrFreqOffset data => Sys2Proof.Machine.execWrFreqOffset data s
  | .rdFreqOffset => Sys2Proof.Machine.execRdFreqOffset s
  | .rdFreqWord => Sys2Proof.Machine.execRdFreqWord s
  | .wrMode data => Sys2Proof.Machine.execWrMode data s
  | .rdMode => Sys2Proof.Machine.execRdMode s
  | .wrBandwidth data => Sys2Proof.Machine.execWrBandwidth data s
  | .rdBandwidth => Sys2Proof.Machine.execRdBandwidth s
  | .wrAgcSpeed data => Sys2Proof.Machine.execWrAgcSpeed data s
  | .rdAgcSpeed => Sys2Proof.Machine.execRdAgcSpeed s
  | .wrCwSidetone data => Sys2Proof.Machine.execWrCwSidetone data s
  | .rdCwSidetone => Sys2Proof.Machine.execRdCwSidetone s
  | .rdSidetoneInc => Sys2Proof.Machine.execRdSidetoneInc s
  | .wrGainCal data => Sys2Proof.Machine.execWrGainCal data s
  | .rdGainCal => Sys2Proof.Machine.execRdGainCal s
  | .wrVolume data => Sys2Proof.Machine.execWrVolume data s
  | .rdVolume => Sys2Proof.Machine.execRdVolume s
  | .wrSquelch data => Sys2Proof.Machine.execWrSquelch data s
  | .rdSquelch => Sys2Proof.Machine.execRdSquelch s
  | .wrIqSwap data => Sys2Proof.Machine.execWrIqSwap data s
  | .rdIqSwap => Sys2Proof.Machine.execRdIqSwap s
  | .wrPwmMax data => Sys2Proof.Machine.execWrPwmMax data s
  | .rdPwmMax => Sys2Proof.Machine.execRdPwmMax s
  | .rdSignalStrength => Sys2Proof.Machine.execRdSignalStrength s
  | .rdOutCount => Sys2Proof.Machine.execRdOutCount s
  | .rdBlockIndex => Sys2Proof.Machine.execRdBlockIndex s
  | .pushCode data => Sys2Proof.Machine.execPushCode data s
  | .rdCapSeq => Sys2Proof.Machine.execRdCapSeq s
  | .rdBlkSeq => Sys2Proof.Machine.execRdBlkSeq s
  | .rdPerfCycles => Sys2Proof.Machine.execRdPerfCycles s
  | .rdCapI k => Sys2Proof.Machine.execRdCapI k s
  | .rdCapQ k => Sys2Proof.Machine.execRdCapQ k s
  | .rdAudioOut k => Sys2Proof.Machine.execRdAudioOut k s

end Sys2Proof.Machine
end

