-- ==== Sys2Proof/Machine/Step.lean ====
section
/-!
DEFINITION. One step of the machine: the next transaction in the bus order, performed whole (20_memory.md R105, R109).
-/
namespace Sys2Proof.Machine

/-- Performs one transaction: a legal one runs its meaning, an illegal one raises BusError (30_encoding.md R142, R147). -/
def perform (t : BusTxn) (s : State) : Out :=
  match decode t with
  | .ok i => exec i s
  | .error _ => .next (busError t.header s)

/-- One step. Without a pending transaction the core is idle and keeps all its state (60_exceptions.md R480). A configuration
that fails R8 is refused (R8, W1); that of this machine does not. -/
def step (s : State) : Host.Outcome State Fault Refusal :=
  if Config.chip.Wf then
    match s.takeTxn with
    | none => .next s
    | some (t, s1) => perform t s1
  else .refused .illFormedConfiguration

/-- The state with the transaction of table word `w` first in the bus order, so that the next step performs it (entry 6). -/
def State.withFetchWord (s : State) (nbits w : Nat) : State := s.putTxn (txnOfTableWord nbits w)

end Sys2Proof.Machine
end

