-- ==== Sys2Proof/Machine/AddressMap.lean ====
section
/-!
DEFINITION. The register space read by address, following the address map (20_memory.md R100 to R107, R114). No transaction uses
these: they say, apart from the opcode map, which register each address names and what a read there returns.
-/
namespace Sys2Proof.Machine

/-- What a read of the word at byte address `a` returns; `none` where a read is illegal: a reserved or misaligned address, or the
write-only ADC_DATA (R101, R104, R107). At PERF_CYCLES it is the next draw (R73). -/
def peekWord (s : State) (a : BitVec 16) : Option Word :=
  match a.toNat with
  | 0x0000 => some (rdataUnsigned s.status)
  | 0x0004 => some s.freqOffset
  | 0x0008 => some (rdataUnsigned s.freqWord)
  | 0x000C => some (rdataCount (modeCode s.mode))
  | 0x0010 => some s.bandwidth
  | 0x0014 => some (rdataUnsigned s.agcSpeed)
  | 0x0018 => some (rdataUnsigned s.cwSidetone)
  | 0x001C => some (rdataUnsigned s.sidetoneInc)
  | 0x0020 => some s.gainCal
  | 0x0024 => some s.volume
  | 0x0028 => some s.squelch
  | 0x002C => some (rdataUnsigned s.iqSwap)
  | 0x0030 => some (rdataUnsigned s.pwmMax)
  | 0x0034 => some s.signalStrength
  | 0x0038 => some (rdataUnsigned s.outCount)
  | 0x003C => some (rdataCount s.blkN)
  | 0x0044 => some s.capSeq
  | 0x0048 => some s.blkSeq
  | 0x004C => some (Config.chip.perfCycles s.perfDraws)
  | n =>
    if n % 4 ≠ 0 then none
    else if 0x0400 ≤ n ∧ n < 0x0800 then some (rdataSigned8 (entry s.capI ((n - 0x0400) / 4)))
    else if 0x0800 ≤ n ∧ n < 0x0C00 then some (rdataSigned8 (entry s.capQ ((n - 0x0800) / 4)))
    else if 0x1000 ≤ n ∧ n < 0x1000 + 4 * Config.chip.outCap then
      some (rdataUnsigned (entry s.audioOut ((n - 0x1000) / 4)))
    else none

/-- The addresses a write transaction may name (R101): the RW registers, STATUS and ADC_DATA. -/
def writable (a : BitVec 16) : Bool :=
  a.toNat ∈ [0x0000, 0x0004, 0x000C, 0x0010, 0x0014, 0x0018, 0x0020, 0x0024, 0x0028, 0x002C, 0x0030, 0x0040]

/-- Byte `b` (0 to 3) of a word on the little-endian lanes: byte 0 is data bits 7:0, at the word's own address (R102). -/
def laneByte (v : Word) (b : Nat) : BitVec 8 := v.extractLsb' (8 * b) 8

/-- The byte at address `a` of the register space as the byte lanes show it (R102); 0 where no word can be read. -/
def peekByte (s : State) (a : BitVec 16) : BitVec 8 :=
  laneByte ((peekWord s (a - a % 4)).getD 0) (a % 4).toNat

end Sys2Proof.Machine
end

