-- ==== Sys2Proof/Machine/Pseudo.lean ====
section
/-!
DEFINITION. The pseudo-instructions of the transaction assembly syntax and their expansions (30_encoding.md R150). They are no
rows of the opcode table; each stands for rows of it.
-/
namespace Sys2Proof.Machine

/-- `TUNE <hz>` is `WR FREQ_OFFSET, <hz>`; a decimal value is its 32-bit two's complement (R150). -/
def pseudoTune (hz : Int) : List Instr := [.wrFreqOffset (BitVec.ofInt 32 hz)]

/-- `ACK <mask>` is `WR STATUS, <mask>` (R150). -/
def pseudoAck (mask : Word) : List Instr := [.wrStatus mask]

/-- `FILL <code>, <n>` is `PUSH <code>` n times (R150). -/
def pseudoFill (code : Word) (n : Nat) : List Instr := List.replicate n (.pushCode code)

/-- `BLOCK <c0>, ..., <cN-1>` is one PUSH per code (R150). -/
def pseudoBlock (codes : List Word) : List Instr := codes.map .pushCode

/-- `NOP` is `RD STATUS`, result discarded (R150). -/
def pseudoNop : List Instr := [.rdStatus]

/-- A master's program as the transactions it issues (R445). -/
def program (is : List Instr) : List BusTxn := is.map encode

end Sys2Proof.Machine
end

