-- ==== Sys2Proof/Safety.lean ====
section
/-!
DEFINITION. The terms claims are stated in: which parts of the state a transaction leaves alone, the ranges the spec gives every
piece of state (the invariants of the machine), the CIC without wrap, and the interleavings of the masters.
-/
namespace Sys2Proof.Machine

/-- The registers a PUSH_CODE reads or leaves alone are the same in both states: the configuration registers R55 to R66 and the
model's draw count, response and queue. -/
structure SameSettings (s t : State) : Prop where
  freqOffset : t.freqOffset = s.freqOffset
  freqWord : t.freqWord = s.freqWord
  mode : t.mode = s.mode
  bandwidth : t.bandwidth = s.bandwidth
  agcSpeed : t.agcSpeed = s.agcSpeed
  cwSidetone : t.cwSidetone = s.cwSidetone
  sidetoneInc : t.sidetoneInc = s.sidetoneInc
  gainCal : t.gainCal = s.gainCal
  volume : t.volume = s.volume
  squelch : t.squelch = s.squelch
  iqSwap : t.iqSwap = s.iqSwap
  pwmMax : t.pwmMax = s.pwmMax
  perfDraws : t.perfDraws = s.perfDraws
  bus : t.bus = s.bus

/-- The state groups of the five modes (R345). -/
structure SameModeGroups (s t : State) : Prop where
  amAcc : t.amAcc = s.amAcc
  fmLast : t.fmLast = s.fmLast
  ssbIdx : t.ssbIdx = s.ssbIdx
  ssbFilt : t.ssbFilt = s.ssbFilt
  cicCw : t.cicCw = s.cicCw
  hb1Cw : t.hb1Cw = s.hb1Cw
  hb2Cw : t.hb2Cw = s.hb2Cw
  cwMag : t.cwMag = s.cwMag
  stPhase : t.stPhase = s.stPhase

/-- The state that only PUSH_CODE moves: the NCO, the main path, the AGC and the block processor with all it publishes. -/
structure SameEngine (s t : State) : Prop where
  ncoPhase : t.ncoPhase = s.ncoPhase
  cicMain : t.cicMain = s.cicMain
  hb1Main : t.hb1Main = s.hb1Main
  hb2Main : t.hb2Main = s.hb2Main
  agcMaxHold : t.agcMaxHold = s.agcMaxHold
  agcHang : t.agcHang = s.agcHang
  blkN : t.blkN = s.blkN
  magSum : t.magSum = s.magSum
  workBuf : t.workBuf = s.workBuf
  workCount : t.workCount = s.workCount
  capShI : t.capShI = s.capShI
  capShQ : t.capShQ = s.capShQ
  signalStrength : t.signalStrength = s.signalStrength
  outCount : t.outCount = s.outCount
  capSeq : t.capSeq = s.capSeq
  blkSeq : t.blkSeq = s.blkSeq
  capI : t.capI = s.capI
  capQ : t.capQ = s.capQ
  audioOut : t.audioOut = s.audioOut

/-- Every register of a CIC lane is a `w`-bit pattern (R42). -/
abbrev CicLane.Narrow (w : Nat) (l : CicLane) : Prop :=
  l.i1.toNat < 2 ^ w ∧ l.i2.toNat < 2 ^ w ∧ l.i3.toNat < 2 ^ w ∧ l.i4.toNat < 2 ^ w ∧
  l.d1.toNat < 2 ^ w ∧ l.d2.toNat < 2 ^ w ∧ l.d3.toNat < 2 ^ w ∧ l.d4.toNat < 2 ^ w

/-- The ranges 10_state.md gives the state, for the machine's configuration: counters below their factor and registers of W_CIC
bits (R42, R43), the AM tracker (R45), the AGC peak (R49), the index, the buffers, the count and the accumulated magnitude (R50),
the legal values and derived words of the tuning registers (R55, R56, R60, R61), the published count and windows (R68, R74, R75). -/
structure State.Inv (s : State) : Prop where
  cntMain : s.cicMain.cnt < 20
  cntCw : s.cicCw.cnt < 10
  narrowMain : s.cicMain.laneI.Narrow 32 ∧ s.cicMain.laneQ.Narrow 32
  narrowCw : s.cicCw.laneI.Narrow 32 ∧ s.cicCw.laneQ.Narrow 32
  amAcc : 0 ≤ s.amAcc.toInt ∧ s.amAcc.toInt ≤ 65535 * 2 ^ 5
  hold : 0 ≤ s.agcMaxHold.toInt ∧ s.agcMaxHold.toInt ≤ 32768 * 2 ^ 16
  blkN : s.blkN < 4000
  magSum : s.magSum.toNat ≤ 65535 * s.blkN
  workCount : s.workCount ≤ 404
  workBuf : s.workBuf.length = 404
  capShI : s.capShI.length = 256
  capShQ : s.capShQ.length = 256
  offset : -250000 ≤ s.freqOffset.toInt ∧ s.freqOffset.toInt ≤ 250000
  word : s.freqWord = freqWordOf Config.chip s.freqOffset.toInt
  sidetone : s.cwSidetone.toNat ≤ 6250
  increment : s.sidetoneInc = sidetoneIncOf Config.chip s.cwSidetone.toNat
  outCount : s.outCount.toNat ≤ 404
  capI : s.capI.length = 256
  capQ : s.capQ.length = 256
  audioOut : s.audioOut.length = 404
  audioZero : ∀ k, s.outCount.toNat ≤ k → entry s.audioOut k = 0

/-- The alignment of the decimation with the block, in the machine's configuration, where a block is a whole number of
2*R_MAIN codes (R216, R319): the CIC counter, the half-band phase and the audio count follow from the index, every completed
block has 100 final-ready samples, and no copy has been dropped (R211). -/
structure State.Aligned (s : State) : Prop where
  blkN : s.blkN < 4000
  cnt : s.cicMain.cnt = s.blkN % 20
  phase : s.hb1Main % 2 = s.blkN / 20 % 2
  work : s.workCount = 4 * (s.blkN / 40)
  count : (s.blkSeq = 0 ∧ s.outCount = 0) ∨ s.outCount = 400
  noDrop : s.status.getLsbD 4 = false

/-- One lane of the CIC over unbounded integers: the true running sums and the true delayed values, no wrap (R287). -/
structure TrueLane where
  i1 : Int
  i2 : Int
  i3 : Int
  i4 : Int
  d1 : Int
  d2 : Int
  d3 : Int
  d4 : Int

/-- The integrators without wrap (R281, R287). -/
def TrueLane.integrate (x : Int) (l : TrueLane) : TrueLane :=
  let a1 := l.i1 + x
  let a2 := l.i2 + a1
  let a3 := l.i3 + a2
  { l with i1 := a1, i2 := a2, i3 := a3, i4 := l.i4 + a3 }

/-- The combs without wrap (R283, R287). -/
def TrueLane.comb (l : TrueLane) : Int × TrueLane :=
  let v1 := l.i4 - l.d1
  let v2 := v1 - l.d2
  let v3 := v2 - l.d3
  (v3 - l.d4, { l with d1 := l.i4, d2 := v1, d3 := v2, d4 := v3 })

/-- A register lane holds the true lane modulo 2^w. -/
structure CicLane.Wraps (w : Nat) (l : CicLane) (L : TrueLane) : Prop where
  i1 : l.i1 = reg64 w L.i1
  i2 : l.i2 = reg64 w L.i2
  i3 : l.i3 = reg64 w L.i3
  i4 : l.i4 = reg64 w L.i4
  d1 : l.d1 = reg64 w L.d1
  d2 : l.d2 = reg64 w L.d2
  d3 : l.d3 = reg64 w L.d3
  d4 : l.d4 = reg64 w L.d4

/-- A true lane with every sum and delay 0. -/
def TrueLane.zero : TrueLane := ⟨0, 0, 0, 0, 0, 0, 0, 0⟩

/-- One call on a counter and a true lane: the integrators on every input, the combs on every `r`-th (R280, R282). -/
def TrueLane.call (r : Nat) (p : Nat × TrueLane) (x : Int) : Nat × TrueLane :=
  if p.1 + 1 < r then (p.1 + 1, p.2.integrate x) else (0, (p.2.integrate x).comb.2)

/-- The true lane after the inputs `xs` from zero. -/
def trueAfter (r : Nat) (xs : List Int) : TrueLane := (xs.foldl (TrueLane.call r) (0, .zero)).2

/-- The CIC instance after the inputs `xs` from reset. -/
def cicAfter (w r sh : Nat) (xs : List Pair) : Cic := xs.foldl (fun C x => (cicStep w r sh x C).cic) .zero

/-- A value of a signed `b`-bit lane (R10). -/
abbrev InBits (b : Nat) (v : Int) : Prop := -2 ^ (b - 1) ≤ v ∧ v < 2 ^ (b - 1)

/-- A header that R142, R146 and R147 make legal, by number: RSV 0, a word-aligned address, and an address that the map R101 lets
a transaction of its kind name. -/
abbrev LegalHeader (h : Word) : Prop :=
  h.toNat / 2 ^ 16 % 2 ^ 15 = 0 ∧ h.toNat % 4 = 0 ∧
  (if h.toNat < 2 ^ 31 then
    (h.toNat ≤ 0x4C ∧ h.toNat ≠ 0x40) ∨ (0x400 ≤ h.toNat ∧ h.toNat < 0xC00) ∨
      (0x1000 ≤ h.toNat ∧ h.toNat < 0x1000 + 4 * Config.chip.outCap)
  else h.toNat % 2 ^ 16 ∈ [0x00, 0x04, 0x0C, 0x10, 0x14, 0x18, 0x20, 0x24, 0x28, 0x2C, 0x30, 0x40])

/-- Whether a transaction is a legal PUSH_CODE. -/
def isPush (t : BusTxn) : Bool :=
  match decode t with
  | .ok (.pushCode _) => true
  | _ => false

/-- Whether a transaction is a legal WR_FREQ_OFFSET. -/
def isTune (t : BusTxn) : Bool :=
  match decode t with
  | .ok (.wrFreqOffset _) => true
  | _ => false

/-- `Interleaves ms order`: the bus order `order` merges the masters' own sequences `ms`, keeping each master's order (R110). -/
inductive Interleaves : List (List BusTxn) → List BusTxn → Prop where
  | done (ms : List (List BusTxn)) (h : ∀ m ∈ ms, m = []) : Interleaves ms []
  | next (before after : List (List BusTxn)) (t : BusTxn) (m order : List BusTxn)
      (h : Interleaves (before ++ m :: after) order) : Interleaves (before ++ (t :: m) :: after) (t :: order)

end Sys2Proof.Machine
end

