-- ==== Sys2Proof/Certificates/Slice0/Obligations.lean ====
section
/-!
DEFINITION. The statements for the provers: what the machine and its transactions do, from the numbered rules of spec/. Each
docstring names the rules; a statement that rests on a choice of the model names the log entry.
-/

section Statements

open Sys2Proof Sys2Proof.Machine

/-! ### Reset, steps and the bus -/

/-- R491, and `irq` low after reset (R490). PERF_CYCLES has no register, and the look-up tables are constants. -/
def Obligations.ResetPutsEveryRegisterAtItsResetValue : Prop :=
  State.reset.ncoPhase = 0 ∧
  State.reset.cicMain = ⟨⟨0, 0, 0, 0, 0, 0, 0, 0⟩, ⟨0, 0, 0, 0, 0, 0, 0, 0⟩, 0⟩ ∧
  State.reset.cicCw = ⟨⟨0, 0, 0, 0, 0, 0, 0, 0⟩, ⟨0, 0, 0, 0, 0, 0, 0, 0⟩, 0⟩ ∧
  State.reset.hb1Main = Config.chip.hb1.init ∧ State.reset.hb1Cw = Config.chip.hb1.init ∧
  State.reset.hb2Main = Config.chip.hb2.init ∧ State.reset.hb2Cw = Config.chip.hb2.init ∧
  State.reset.amAcc = 0 ∧ State.reset.fmLast = 0 ∧
  State.reset.ssbIdx = 0 ∧ State.reset.ssbFilt = Config.chip.ssbFilt.init ∧
  State.reset.cwMag = 0 ∧ State.reset.stPhase = 0 ∧
  State.reset.agcMaxHold = 0 ∧ State.reset.agcHang = 0 ∧
  State.reset.blkN = 0 ∧ State.reset.magSum = 0 ∧ State.reset.workCount = 0 ∧
  State.reset.workBuf = List.replicate Config.chip.outCap 0 ∧
  State.reset.capShI = List.replicate Config.chip.capLen 0 ∧ State.reset.capShQ = List.replicate Config.chip.capLen 0 ∧
  State.reset.status = 0 ∧ State.reset.freqOffset = 0 ∧ State.reset.freqWord = 0 ∧ State.reset.mode = .am ∧
  State.reset.bandwidth = 0 ∧ State.reset.agcSpeed = 0 ∧ State.reset.cwSidetone = 0 ∧ State.reset.sidetoneInc = 0 ∧
  State.reset.gainCal = 0 ∧ State.reset.volume = 0 ∧ State.reset.squelch = 0 ∧ State.reset.iqSwap = 0 ∧
  State.reset.pwmMax = 0 ∧ State.reset.signalStrength = 0 ∧ State.reset.outCount = 0 ∧
  State.reset.capSeq = 0 ∧ State.reset.blkSeq = 0 ∧
  State.reset.capI = List.replicate Config.chip.capLen 0 ∧ State.reset.capQ = List.replicate Config.chip.capLen 0 ∧
  State.reset.audioOut = List.replicate Config.chip.outCap 0 ∧ State.reset.irq = false

/-- The three cases of a step (R105, R109, R142, R147): a legal transaction runs its meaning, an illegal one raises BusError, and
without a transaction the core is idle and keeps its state (R480). That a step is one transaction is entry 6. -/
def Obligations.StepRunsTheDecodedTransaction : Prop :=
  ∀ s : State,
    (s.bus = [] → step s = .next s) ∧
    (∀ t rest i, s.bus = t :: rest → decode t = .ok i → step s = exec i { s with bus := rest }) ∧
    (∀ t rest e, s.bus = t :: rest → decode t = .error e → step s = .next (busError t.header { s with bus := rest }))

/-- R470, R473: nothing traps and nothing halts. A run of n steps ends in a next state for every state whatever, having taken n
transactions, or all there were. -/
def Obligations.EveryRunTakesItsTransactionsAndNeverStops : Prop :=
  ∀ (n : Nat) (s : State), ∃ t, Host.Core.run Sys2Proof.core n s = .next t ∧ t.bus = s.bus.drop n

/-- R109: a transaction sees none of those after it. A transaction delivered behind others changes nothing of the step. -/
def Obligations.LaterDeliveriesDoNotChangeAStep : Prop :=
  ∀ (s : State) (t : BusTxn), s.bus ≠ [] →
    ∃ u, step s = .next u ∧ step (s.deliver t) = .next (u.deliver t)

/-! ### Encoding -/

/-- R142, R146, R147, R148: the headers the decoder accepts are exactly those the address map allows, by number, and the data word
never matters. -/
def Obligations.LegalHeadersAreThoseOfTheAddressMap : Prop :=
  ∀ (h data : Word), (∃ i, decode ⟨h, data⟩ = .ok i) ↔ LegalHeader h

/-- R147: every other header raises BusError: the flag is set, a read returns 0, and nothing else changes. That an illegal write
leaves no response is R140 as entry 7 reads it. -/
def Obligations.IllegalTransactionRaisesBusErrorAlone : Prop :=
  ∀ (h data : Word) (s : State), ¬ LegalHeader h →
    step { s with bus := ⟨h, data⟩ :: s.bus } = .next { s with
      status := s.status ||| 0b100000#6
      rdata := if h.getLsbD 31 then none else some 0 }

/-- Decode and encode agree: every transaction, with every operand its encoding admits, is read back from its own words (R140,
R144, R146). -/
def Obligations.DecodeReadsBackEveryEncodedTransaction : Prop :=
  ∀ i : Instr, i.wf Config.chip.outCap = true → decode (encode i) = .ok i

/-- Each legal header stands for one transaction, and the encoder writes that header; a write's data word comes back too (R140,
R142). -/
def Obligations.EncodeWritesBackEveryDecodedTransaction : Prop :=
  ∀ (t : BusTxn) (i : Instr), decode t = .ok i →
    (encode i).header = t.header ∧ (i.isWrite = true → encode i = t) ∧ i.wf Config.chip.outCap = true

/-- A few words written out from the encodings of 46_host_transactions.md and the transactions they stand for. -/
def Obligations.SampleWordsDecodeToTheirTransactions : Prop :=
  decode ⟨0x80000000#32, 0x1F#32⟩ = .ok (.wrStatus 0x1F#32) ∧
  decode ⟨0x80000004#32, 0x000493E0#32⟩ = .ok (.wrFreqOffset 300000#32) ∧
  decode ⟨0x0000001C#32, 0#32⟩ = .ok .rdSidetoneInc ∧
  decode ⟨0x80000040#32, 0xFFFF0800#32⟩ = .ok (.pushCode 0xFFFF0800#32) ∧
  decode ⟨0x00000404#32, 5#32⟩ = .ok (.rdCapI 1) ∧
  decode ⟨0x00000BFC#32, 0#32⟩ = .ok (.rdCapQ 255) ∧
  decode ⟨0x0000164C#32, 0#32⟩ = .ok (.rdAudioOut 403)

/-- The opcode map against the address map (R101, R104, R107): a read of an address is legal exactly where the map names a readable
word, returns that word, and changes nothing else (R106) but the model's own count of draws (entry 5). -/
def Obligations.ReadsAgreeWithTheAddressMap : Prop :=
  ∀ (a : BitVec 16) (s : State),
    match peekWord s a with
    | some v => ∃ i, decode (readTxn a) = .ok i ∧
        exec i s = .next { s with rdata := some v, perfDraws := if a = 0x004C#16 then s.perfDraws + 1 else s.perfDraws }
    | none => ∃ e, decode (readTxn a) = .error e

/-! ### Writes. That a write leaves no response (`rdata` at `none`) is in each of them R140 as entry 7 reads it. -/

/-- R410: a 1 clears its flag, a 0 leaves it, bits 31:6 are ignored, and no flag is set. -/
def Obligations.WrStatusClearsTheMaskedFlags : Prop :=
  ∀ (data : Word) (s : State), ∃ t, exec (.wrStatus data) s = .next t ∧
    (∀ b, b < 6 → t.status.getLsbD b = (s.status.getLsbD b && !data.getLsbD b)) ∧
    t = { s with status := t.status, rdata := none }

/-- R412, R255, R256: the offset stored is the nearest legal one; the frequency word is the integer nearest to f * 2^W_PHASE / F_S,
a tie away from zero, modulo 2^W_PHASE; `nco_phase` and all else stay. -/
def Obligations.WrFreqOffsetClampsAndTunes : Prop :=
  ∀ (data : Word) (s : State), ∃ (t : State) (f n : Int),
    exec (.wrFreqOffset data) s = .next t ∧
    t = { s with freqOffset := t.freqOffset, freqWord := t.freqWord, rdata := none } ∧
    t.freqOffset.toInt = f ∧ t.freqWord.toNat = n % 2 ^ Config.chip.wPhase ∧
    f = max (-((Config.chip.fS : Int) / 2)) (min data.toInt ((Config.chip.fS : Int) / 2)) ∧
    (0 ≤ f ↔ 0 ≤ n) ∧
    2 * |f| * 2 ^ Config.chip.wPhase < (2 * |n| + 1) * Config.chip.fS ∧
    (2 * |n| - 1) * Config.chip.fS ≤ 2 * |f| * 2 ^ Config.chip.wPhase

/-- R421, R342: the frequency stored is at most floor(F_DEC / 2); the increment is the integer nearest to f * 2^W_PHASE / F_DEC, a
tie upward, modulo 2^W_PHASE, with F_DEC = F_S / R_TOTAL exact; `st_phase` and all else stay. -/
def Obligations.WrCwSidetoneClampsAndSetsTheIncrement : Prop :=
  ∀ (data : Word) (s : State), ∃ (t : State) (n : Nat),
    exec (.wrCwSidetone data) s = .next t ∧
    t = { s with cwSidetone := t.cwSidetone, sidetoneInc := t.sidetoneInc, rdata := none } ∧
    t.cwSidetone.toNat = min data.toNat (Config.chip.fS / (2 * Config.chip.rTotal)) ∧
    t.sidetoneInc.toNat = n % 2 ^ Config.chip.wPhase ∧
    2 * t.cwSidetone.toNat * 2 ^ Config.chip.wPhase * Config.chip.rTotal < (2 * n + 1) * Config.chip.fS ∧
    2 * n * Config.chip.fS ≤ 2 * t.cwSidetone.toNat * 2 ^ Config.chip.wPhase * Config.chip.rTotal + Config.chip.fS

/-- R415, R345: a value above 4 is ignored, the mode held is not entered again, and another mode is entered with its own group
reset and every other group kept. -/
def Obligations.WrModeEntersTheModeAndResetsItsGroup : Prop :=
  ∀ (data : Word) (s : State),
    (4 < data.toNat → exec (.wrMode data) s = .next { s with rdata := none }) ∧
    (∀ m, modeCode m = data.toNat →
      (m = s.mode → exec (.wrMode data) s = .next { s with rdata := none }) ∧
      (m ≠ s.mode → exec (.wrMode data) s = .next
        (match m with
        | .am => { s with mode := .am, amAcc := 0, rdata := none }
        | .fm => { s with mode := .fm, fmLast := 0, rdata := none }
        | .usb => { s with mode := .usb, ssbIdx := 0, ssbFilt := Config.chip.ssbFilt.init, rdata := none }
        | .lsb => { s with mode := .lsb, ssbIdx := 0, ssbFilt := Config.chip.ssbFilt.init, rdata := none }
        | .cw => { s with
            mode := .cw
            cicCw := ⟨⟨0, 0, 0, 0, 0, 0, 0, 0⟩, ⟨0, 0, 0, 0, 0, 0, 0, 0⟩, 0⟩
            hb1Cw := Config.chip.hb1.init
            hb2Cw := Config.chip.hb2.init
            cwMag := 0
            stPhase := 0
            rdata := none })))

/-- R417, R424, R426, R428: each of the four registers takes the data word unchanged, and nothing else changes. -/
def Obligations.OpaqueWritesStoreTheWholeWord : Prop :=
  ∀ (data : Word) (s : State),
    exec (.wrBandwidth data) s = .next { s with bandwidth := data, rdata := none } ∧
    exec (.wrGainCal data) s = .next { s with gainCal := data, rdata := none } ∧
    exec (.wrVolume data) s = .next { s with volume := data, rdata := none } ∧
    exec (.wrSquelch data) s = .next { s with squelch := data, rdata := none }

/-- R419, R430, R432: the AGC speed is clamped to 3 and the scale to 65535, the swap flag takes bit 0 alone, and nothing else
changes; in particular not the AGC's state (R390). -/
def Obligations.ClampedWritesStoreTheNearestLegalValue : Prop :=
  ∀ (data : Word) (s : State),
    (∃ v : BitVec 2, v.toNat = min data.toNat 3 ∧
      exec (.wrAgcSpeed data) s = .next { s with agcSpeed := v, rdata := none }) ∧
    (∃ v : BitVec 1, v.toNat = data.toNat % 2 ∧
      exec (.wrIqSwap data) s = .next { s with iqSwap := v, rdata := none }) ∧
    (∃ v : BitVec 16, v.toNat = min data.toNat 65535 ∧
      exec (.wrPwmMax data) s = .next { s with pwmMax := v, rdata := none })

/-! ### Reads -/

/-- R411, R413, R416, R418, R420, R422, R425, R427, R429, R431, R433: the response of a read of a register a master can also write,
and that nothing else changes. -/
def Obligations.ReadsOfSettingsReturnTheStoredValue : Prop :=
  ∀ s : State,
    exec .rdStatus s = .next { s with rdata := some (0#26 ++ s.status) } ∧
    exec .rdFreqOffset s = .next { s with rdata := some s.freqOffset } ∧
    exec .rdMode s = .next { s with rdata := some (match s.mode with | .am => 0 | .fm => 1 | .usb => 2 | .lsb => 3 | .cw => 4) } ∧
    exec .rdBandwidth s = .next { s with rdata := some s.bandwidth } ∧
    exec .rdAgcSpeed s = .next { s with rdata := some (0#30 ++ s.agcSpeed) } ∧
    exec .rdCwSidetone s = .next { s with rdata := some s.cwSidetone } ∧
    exec .rdGainCal s = .next { s with rdata := some s.gainCal } ∧
    exec .rdVolume s = .next { s with rdata := some s.volume } ∧
    exec .rdSquelch s = .next { s with rdata := some s.squelch } ∧
    exec .rdIqSwap s = .next { s with rdata := some (0#31 ++ s.iqSwap) } ∧
    exec .rdPwmMax s = .next { s with rdata := some (0#16 ++ s.pwmMax) }

/-- R414, R423, R434, R435, R436, R438, R439, R440: the response of a read of a read-only register, that nothing else changes but the
model's own count of draws at PERF_CYCLES (entry 5), and that a write of each is illegal. -/
def Obligations.ReadOnlyRegistersAreReadAndNotWritten : Prop :=
  (∀ s : State,
    exec .rdFreqWord s = .next { s with rdata := some s.freqWord } ∧
    exec .rdSidetoneInc s = .next { s with rdata := some s.sidetoneInc } ∧
    exec .rdSignalStrength s = .next { s with rdata := some s.signalStrength } ∧
    exec .rdOutCount s = .next { s with rdata := some (0#21 ++ s.outCount) } ∧
    exec .rdBlockIndex s = .next { s with rdata := some (BitVec.ofNat 32 s.blkN) } ∧
    exec .rdCapSeq s = .next { s with rdata := some s.capSeq } ∧
    exec .rdBlkSeq s = .next { s with rdata := some s.blkSeq } ∧
    exec .rdPerfCycles s =
      .next { s with perfDraws := s.perfDraws + 1, rdata := some (Config.chip.perfCycles s.perfDraws) }) ∧
  (∀ data : Word, ∀ h ∈ [0x80000008#32, 0x8000001C#32, 0x80000034#32, 0x80000038#32, 0x8000003C#32, 0x80000044#32,
      0x80000048#32, 0x8000004C#32], ∃ e, decode ⟨h, data⟩ = .error e)

/-- R441, R442, R443: the response of a window read, that nothing else changes, and that a write of an entry and an AUDIO_OUT index
at or above OUT_CAP are illegal. -/
def Obligations.WindowsAreReadAndNotWritten : Prop :=
  (∀ (k : BitVec 8) (s : State),
    exec (.rdCapI k) s = .next { s with rdata := some ((s.capI.getD k.toNat 0).signExtend 32) } ∧
    exec (.rdCapQ k) s = .next { s with rdata := some ((s.capQ.getD k.toNat 0).signExtend 32) }) ∧
  (∀ (k : BitVec 10) (s : State),
    exec (.rdAudioOut k) s = .next { s with rdata := some (0#16 ++ s.audioOut.getD k.toNat 0) }) ∧
  (∀ (data : Word) (k : BitVec 8),
    (∃ e, decode ⟨0x80000400#32 + 4 * k.setWidth 32, data⟩ = .error e) ∧
    (∃ e, decode ⟨0x80000800#32 + 4 * k.setWidth 32, data⟩ = .error e)) ∧
  (∀ (data : Word) (k : BitVec 10),
    (∃ e, decode ⟨0x80001000#32 + 4 * k.setWidth 32, data⟩ = .error e) ∧
    (Config.chip.outCap ≤ k.toNat → ∃ e, decode ⟨0x00001000#32 + 4 * k.setWidth 32, data⟩ = .error e))

/-! ### PUSH_CODE and the block processor -/

/-- R200, R437: one PUSH_CODE runs the stages in the source's order on the container in data bits 15:0, and the registers it reads
are those of the step's start (R217). The case without an SSB sample is entry 9, and that the write leaves no response is R140 as
entry 7 reads it. -/
def Obligations.PushCodeRunsTheStagesInOrder : Prop :=
  ∀ (data : Word) (s : State), exec (.pushCode data) s = .next
    (let c := Config.chip
     let x := swapPair s.iqSwap (splitSample (zeroCentre c (data.extractLsb' 0 16)) s.blkN)
     let s1 := capturePublish c (captureWrite c x s)
     let s2 := { s1 with ncoPhase := reg32 c.wPhase (s.ncoPhase.toNat + s.freqWord.toNat) }
     let s3 :=
       match mainCascade c (ncoRotate c s.ncoPhase x) s2 with
       | (none, r) => r
       | (some y, r) =>
         match demod c y { r with magSum := r.magSum + (c.mag y.i y.q).setWidth 64 } with
         | (none, d) => d
         | (some a, d) =>
           emit c (pwmScale (c.postAgc (agc c a d).1 s.volume s.squelch) s.pwmMax) c.interp (agc c a d).2
     let s4 := if s.blkN + 1 = c.nBlock then blockEnd c { s3 with blkN := s.blkN + 1 } else { s3 with blkN := s.blkN + 1 }
     { s4 with rdata := none })

/-- R254 and the index of R212: one code advances the phase by one frequency word and the index by one, in every mode and whether or
not a sample comes out. It writes no configuration register (R200, R217), no draw count (entry 5) and no waiting transaction
(entry 6), and leaves no response (R140 as entry 7 reads it). -/
def Obligations.PushCodeAdvancesThePhaseAndTheIndex : Prop :=
  ∀ (data : Word) (s : State), ∃ t, exec (.pushCode data) s = .next t ∧
    t.ncoPhase.toNat = (s.ncoPhase.toNat + s.freqWord.toNat) % 2 ^ Config.chip.wPhase ∧
    t.blkN = (if s.blkN + 1 = Config.chip.nBlock then 0 else s.blkN + 1) ∧
    SameSettings s t ∧ t.rdata = none

/-- R257 over the queue of entry 6: the phase after K codes is exact, across any number of wraps, whatever other transactions but a
legal WR_FREQ_OFFSET come between. A WR_FREQ_OFFSET that leaves FREQ_WORD as it was is shut out too, so this says less than R257. -/
def Obligations.OscillatorDoesNotDrift : Prop :=
  ∀ (n : Nat) (s : State), (∀ t ∈ s.bus.take n, isTune t = false) →
    ∃ u, Host.Core.run Sys2Proof.core n s = .next u ∧ u.freqWord = s.freqWord ∧
      u.ncoPhase.toNat =
        (s.ncoPhase.toNat + (s.bus.take n).countP isPush * s.freqWord.toNat) % 2 ^ Config.chip.wPhase

/-- R110, R51: a claim for every interleaving of the masters. However the bus merges their sequences, the index ends at the number of
codes pushed, modulo the block. -/
def Obligations.BlockIndexIgnoresTheInterleaving : Prop :=
  ∀ (ms : List (List BusTxn)) (order : List BusTxn) (s : State),
    Interleaves ms order → s.bus = order → s.blkN < Config.chip.nBlock →
    ∃ u, Host.Core.run Sys2Proof.core order.length s = .next u ∧ u.bus = [] ∧
      u.blkN = (s.blkN + (ms.map (fun m => m.countP isPush)).sum) % Config.chip.nBlock

/-- R201 to R205: the captured entry is the zero-centred code shifted right, in the lane the parity and the swap flag choose, 0 in
the other; the window is published in the step of index CAP_LEN - 1 and at no other. -/
def Obligations.PushCodeCapturesAndPublishes : Prop :=
  ∀ (data : Word) (s : State), s.capShI.length = Config.chip.capLen → s.capShQ.length = Config.chip.capLen →
    ∃ t, exec (.pushCode data) s = .next t ∧
      (s.blkN < Config.chip.capLen →
        (entry t.capShI s.blkN).toInt = (if s.iqSwap = 0 ↔ s.blkN % 2 = 0 then
          (((data.toNat % 2 ^ Config.chip.adcBits : Nat) : Int) - Config.chip.mid) / 2 ^ Config.chip.capShift else 0) ∧
        (entry t.capShQ s.blkN).toInt = (if s.iqSwap = 0 ↔ s.blkN % 2 = 0 then 0 else
          (((data.toNat % 2 ^ Config.chip.adcBits : Nat) : Int) - Config.chip.mid) / 2 ^ Config.chip.capShift)) ∧
      (∀ k, k ≠ s.blkN ∨ Config.chip.capLen ≤ s.blkN →
        entry t.capShI k = entry s.capShI k ∧ entry t.capShQ k = entry s.capShQ k) ∧
      (if s.blkN + 1 = Config.chip.capLen then
        t.capI = t.capShI ∧ t.capQ = t.capShQ ∧ t.capSeq = s.capSeq + 1 ∧ t.status.getLsbD 1 = true
      else t.capI = s.capI ∧ t.capQ = s.capQ ∧ t.capSeq = s.capSeq ∧ t.status.getLsbD 1 = s.status.getLsbD 1)

/-- R201, R204, with R8 item 3: in every well-formed configuration the zero-centred code lies in [-MID, MID-1] and the captured entry
loses nothing in its signed byte. -/
def Obligations.CapturedSamplesFitTheirByte : Prop :=
  ∀ (c : Config) (d : BitVec 16), c.Wf →
    (zeroCentre c d).toInt = ((d.toNat % 2 ^ c.adcBits : Nat) : Int) - c.mid ∧
    -(c.mid : Int) ≤ (zeroCentre c d).toInt ∧ (zeroCentre c d).toInt ≤ c.mid - 1 ∧
    (captureEntry c (zeroCentre c d)).toInt = (zeroCentre c d).toInt / 2 ^ c.capShift

/-- R207: in a step whose cascade gives no sample, the demodulator, the AGC and the working buffer are unchanged, and so are the
magnitude sum and the count unless the step ends the block, which clears both (R215). -/
def Obligations.WithoutAFinalReadySampleNoAudioRuns : Prop :=
  ∀ (data : Word) (s : State),
    (mainCall Config.chip (ncoRotate Config.chip s.ncoPhase (inputPair Config.chip (data.extractLsb' 0 16) s)) s).out = none →
    ∃ t, exec (.pushCode data) s = .next t ∧ SameModeGroups s t ∧
      t.agcMaxHold = s.agcMaxHold ∧ t.agcHang = s.agcHang ∧ t.workBuf = s.workBuf ∧
      (if s.blkN + 1 = Config.chip.nBlock then t.magSum = 0 ∧ t.workCount = 0
       else t.magSum = s.magSum ∧ t.workCount = s.workCount)

/-- R208, R210, R211: a final-ready sample adds its magnitude and INTERP copies of one scaled audio value, of which those that do not
fit are dropped with OUT_OVF. The step that ends a block is left to `PushCodeRunsTheStagesInOrder` and `BlockEndPublishesAndClears`,
and that the 64-bit sum never overflows to `EveryStepKeepsTheStateRanges`. -/
def Obligations.FinalReadySampleAddsMagnitudeAndCopies : Prop :=
  ∀ (data : Word) (s : State) (y : Pair),
    (mainCall Config.chip (ncoRotate Config.chip s.ncoPhase (inputPair Config.chip (data.extractLsb' 0 16) s)) s).out = some y →
    s.workBuf.length = Config.chip.outCap → s.workCount ≤ Config.chip.outCap → s.blkN + 1 ≠ Config.chip.nBlock →
    ∃ (t : State) (y2 : Sample), exec (.pushCode data) s = .next t ∧
      t.magSum = s.magSum + (Config.chip.mag y.i y.q).setWidth 64 ∧
      t.workCount = min (s.workCount + Config.chip.interp) Config.chip.outCap ∧
      (∀ k, entry t.workBuf k =
        if s.workCount ≤ k ∧ k < t.workCount then pwmScale y2 s.pwmMax else entry s.workBuf k) ∧
      t.status.getLsbD 4 = (s.status.getLsbD 4 || decide (Config.chip.outCap < s.workCount + Config.chip.interp))

/-- R210, with its corner cases. -/
def Obligations.PwmScaleStaysBelowPwmMax : Prop :=
  ∀ (y : Sample) (m : BitVec 16),
    ((pwmScale y m).toNat : Int) = (y.toInt + 32768) * m.toNat / 65536 ∧
    (m = 0 → pwmScale y m = 0) ∧ (m ≠ 0 → (pwmScale y m).toNat ≤ m.toNat - 1) ∧
    (y.toInt = -32768 → pwmScale y m = 0) ∧ (y.toInt = 0 → (pwmScale y m).toNat = m.toNat / 2) ∧
    (y.toInt = 32767 → m ≠ 0 → (pwmScale y m).toNat = m.toNat - 1)

/-- R213, R214, R215: what a block end publishes and clears, in every well-formed configuration, and that nothing else changes. -/
def Obligations.BlockEndPublishesAndClears : Prop :=
  ∀ (c : Config) (s : State), c.Wf → s.workBuf.length = c.outCap → s.workCount ≤ c.outCap →
    (blockEnd c s).signalStrength.toNat = min (s.magSum.toNat * c.rTotal / c.nBlock) (2 ^ 32 - 1) ∧
    (∀ k, entry (blockEnd c s).audioOut k = if k < s.workCount then entry s.workBuf k else 0) ∧
    (blockEnd c s).audioOut.length = c.outCap ∧ (blockEnd c s).outCount.toNat = s.workCount ∧
    (blockEnd c s).status.getLsbD 0 = true ∧ (∀ b, 0 < b → (blockEnd c s).status.getLsbD b = s.status.getLsbD b) ∧
    blockEnd c s = { s with
      signalStrength := (blockEnd c s).signalStrength
      audioOut := (blockEnd c s).audioOut
      outCount := (blockEnd c s).outCount
      status := (blockEnd c s).status
      blkSeq := s.blkSeq + 1
      magSum := 0
      workCount := 0
      blkN := 0 }

/-! ### The mixer -/

/-- R253, for the machine's numbers (entry 1): with one lane 0 and a code's range in the other, the rotation by minus the phase is
exact up to the floor and stays in the range, so it never saturates. -/
def Obligations.MixerRotatesWithoutSaturating : Prop :=
  ∀ (ph : BitVec 32) (x : Pair), (x.i = 0 ∨ x.q = 0) →
    (-2048 ≤ x.i.toInt ∧ x.i.toInt ≤ 2047) → (-2048 ≤ x.q.toInt ∧ x.q.toInt ≤ 2047) →
    let y := ncoRotate Config.chip ph x
    let co := cosLut Config.chip (ph.toNat / 2 ^ 22)
    let si := sinLut Config.chip (ph.toNat / 2 ^ 22)
    y.i.toInt = (x.i.toInt * co + x.q.toInt * si) / 2 ^ 15 ∧
    y.q.toInt = (x.q.toInt * co - x.i.toInt * si) / 2 ^ 15 ∧
    -2048 ≤ y.i.toInt ∧ y.i.toInt ≤ 2047 ∧ -2048 ≤ y.q.toInt ∧ y.q.toInt ≤ 2047

/-- The property R258 names, for the machine's numbers (entry 1): the rotation keeps the vector's magnitude within the rounding of
the fixed-point numbers. The bound in squares is the model's inference from R250 and R253. -/
def Obligations.MixerKeepsTheMagnitude : Prop :=
  ∀ (ph : BitVec 32) (x : Pair), (x.i = 0 ∨ x.q = 0) →
    (-2048 ≤ x.i.toInt ∧ x.i.toInt ≤ 2047) → (-2048 ≤ x.q.toInt ∧ x.q.toInt ≤ 2047) →
    let y := ncoRotate Config.chip ph x
    let v := |x.i.toInt + x.q.toInt|
    |y.i.toInt ^ 2 + y.q.toInt ^ 2 - v ^ 2| ≤ 4 * v + 2

/-! ### The decimation cascade -/

/-- R282, R285: from reset the CIC gives a sample on its r-th, 2r-th, 3r-th, ... input and on no other. -/
def Obligations.CicGivesEveryRthInput : Prop :=
  ∀ (w r sh : Nat) (xs : List Pair) (x : Pair), 1 ≤ r →
    (cicAfter w r sh xs).cnt = xs.length % r ∧
    ((cicStep w r sh x (cicAfter w r sh xs)).out.isSome = true ↔ (xs.length + 1) % r = 0)

/-- R284: a decimated lane is the shifted comb result clamped to 16 bits, and the instance's flag is set exactly when a lane of an
output call was clamped. -/
def Obligations.CicOutputSaturatesWithItsFlag : Prop :=
  ∀ (w r sh : Nat) (x : Pair) (C : Cic), r ≤ C.cnt + 1 →
    let vi := (comb w (integrate w x.i C.laneI)).1 / 2 ^ sh
    let vq := (comb w (integrate w x.q C.laneQ)).1 / 2 ^ sh
    ∃ y, (cicStep w r sh x C).out = some y ∧
      y.i.toInt = max (-32768) (min vi 32767) ∧ y.q.toInt = max (-32768) (min vq 32767) ∧
      ((cicStep w r sh x C).sat = true ↔ vi < -32768 ∨ 32767 < vi ∨ vq < -32768 ∨ 32767 < vq)

/-- R287: when W >= B + ceil(4 log2 R), the combs undo the wrap of the integrators: on every output call from reset, whatever the
inputs of B bits, the result read from W-bit registers is the one that unbounded integers give, and it is bounded by the largest
input times R^4. -/
def Obligations.CicCombsUndoTheWrap : Prop :=
  ∀ (w r sh b : Nat) (xs : List Pair) (x : Pair), w ≤ 64 → 1 ≤ r → 1 ≤ b → b ≤ 16 → 2 ^ b * r ^ 4 ≤ 2 ^ w →
    (∀ p ∈ xs ++ [x], InBits b p.i.toInt ∧ InBits b p.q.toInt) → (xs.length + 1) % r = 0 →
    let C := cicAfter w r sh xs
    let ti := (((trueAfter r (xs.map (fun p => p.i.toInt))).integrate x.i.toInt).comb).1
    let tq := (((trueAfter r (xs.map (fun p => p.q.toInt))).integrate x.q.toInt).comb).1
    (comb w (integrate w x.i C.laneI)).1 = ti ∧ (comb w (integrate w x.q C.laneQ)).1 = tq ∧
    (∀ M : Int, (∀ p ∈ xs ++ [x], |p.i.toInt| ≤ M ∧ |p.q.toInt| ≤ M) → |ti| ≤ M * r ^ 4 ∧ |tq| ≤ M * r ^ 4)

/-- R288: a constant input comes out of the combs as x * R^4 from the fourth output call on, in every register width that holds
it. -/
def Obligations.CicConstantInputHasItsDcGain : Prop :=
  ∀ (w r sh b m : Nat) (x : Pair), w ≤ 64 → 1 ≤ r → 1 ≤ b → b ≤ 16 → 2 ^ b * r ^ 4 ≤ 2 ^ w →
    InBits b x.i.toInt → InBits b x.q.toInt → 4 ≤ m →
    let C := cicAfter w r sh (List.replicate (m * r - 1) x)
    (comb w (integrate w x.i C.laneI)).1 = x.i.toInt * r ^ 4 ∧
    (comb w (integrate w x.q C.laneQ)).1 = x.q.toInt * r ^ 4

/-- R313 to R317: each half-band filter is called only when the stage before it is ready, with that stage's output and BANDWIDTH;
its state changes in a call only; and the result is HB2's output. Both paths: the main one runs the CIC of W_CIC, R_MAIN and
CIC_SHIFT_MAIN on `cic_main`, `hb1_main` and `hb2_main`, the CW one that of R_CW and CIC_SHIFT_CW on its own three. -/
def Obligations.CascadeCallsAStageOnlyWhenTheOneBeforeIsReady : Prop :=
  ∀ (c : Config) (x : Pair) (s : State),
    (∀ (r : CicResult) (h1 h2 : Nat),
      (halfbands c s.bandwidth r h1 h2).cic = r.cic ∧ (halfbands c s.bandwidth r h1 h2).sat = r.sat ∧
      (r.out = none →
        (halfbands c s.bandwidth r h1 h2).hb1 = h1 ∧ (halfbands c s.bandwidth r h1 h2).hb2 = h2 ∧
        (halfbands c s.bandwidth r h1 h2).out = none) ∧
      (∀ x1, r.out = some x1 →
        (halfbands c s.bandwidth r h1 h2).hb1 = (c.hb1.step h1 x1 s.bandwidth).1 ∧
        ((c.hb1.step h1 x1 s.bandwidth).2 = none →
          (halfbands c s.bandwidth r h1 h2).hb2 = h2 ∧ (halfbands c s.bandwidth r h1 h2).out = none) ∧
        (∀ x2, (c.hb1.step h1 x1 s.bandwidth).2 = some x2 →
          (halfbands c s.bandwidth r h1 h2).hb2 = (c.hb2.step h2 x2 s.bandwidth).1 ∧
          (halfbands c s.bandwidth r h1 h2).out = (c.hb2.step h2 x2 s.bandwidth).2))) ∧
    mainCall c x s =
      halfbands c s.bandwidth (cicStep c.wCic c.rMain c.cicShiftMain x s.cicMain) s.hb1Main s.hb2Main ∧
    cwCall c x s = halfbands c s.bandwidth (cicStep c.wCic c.rCw c.cicShiftCw x s.cicCw) s.hb1Cw s.hb2Cw ∧
    (mainCascade c x s).1 = (mainCall c x s).out ∧
    (mainCascade c x s).2 = { s with
      cicMain := (mainCall c x s).cic
      hb1Main := (mainCall c x s).hb1
      hb2Main := (mainCall c x s).hb2
      status := if (mainCall c x s).sat then s.status ||| 0b000100#6 else s.status } ∧
    (cwCascade c x s).1 = (cwCall c x s).out ∧
    (cwCascade c x s).2 = { s with
      cicCw := (cwCall c x s).cic
      hb1Cw := (cwCall c x s).hb1
      hb2Cw := (cwCall c x s).hb2
      status := if (cwCall c x s).sat then s.status ||| 0b001000#6 else s.status }

/-- R311, R312, R331, R332, R337: the machine's free collaborators and extractors keep the laws of their contracts (entries 3 and
4), and so do those of the test vectors. -/
def Obligations.CollaboratorsKeepTheirLaws : Prop :=
  ∀ c ∈ [Config.chip, Config.reference],
    c.hb1.DecimatesByTwo ∧ c.hb2.NeverDecimates ∧ c.ssbFilt.NeverDecimates ∧ c.ExtractorLaws

/-! ### The demodulator -/

/-- R330, R346: a demodulator call runs the rule of the selected mode, and writes the group of that mode and, in CW, CW_CIC_SAT, and
nothing else. -/
def Obligations.DemodulatorWritesOnlyItsModeGroup : Prop :=
  ∀ (c : Config) (x : Pair) (s : State),
    (s.mode = .am → demod c x s = demodAm c x s) ∧
    (s.mode = .fm → demod c x s = demodFm c x s) ∧
    (s.mode = .usb → demod c x s = demodUsb c x s) ∧
    (s.mode = .lsb → demod c x s = demodLsb c x s) ∧
    (s.mode = .cw → demod c x s = demodCw c x s) ∧
    (s.mode = .am → (demod c x s).2 = { s with amAcc := (demod c x s).2.amAcc }) ∧
    (s.mode = .fm → (demod c x s).2 = { s with fmLast := (demod c x s).2.fmLast }) ∧
    (s.mode = .usb ∨ s.mode = .lsb → (demod c x s).2 =
      { s with ssbIdx := (demod c x s).2.ssbIdx, ssbFilt := (demod c x s).2.ssbFilt }) ∧
    (s.mode = .cw → (demod c x s).2 = { s with
      cicCw := (demod c x s).2.cicCw
      hb1Cw := (demod c x s).2.hb1Cw
      hb2Cw := (demod c x s).2.hb2Cw
      cwMag := (demod c x s).2.cwMag
      stPhase := (demod c x s).2.stPhase
      status := (demod c x s).2.status } ∧
      (∀ b, b ≠ 3 → (demod c x s).2.status.getLsbD b = s.status.getLsbD b))

/-- R333: the tracker's range is kept, the sum never wraps, the output uses the updated estimate, and for a constant magnitude the
estimate rises to it and never passes it. -/
def Obligations.AmTracksTheEnvelope : Prop :=
  ∀ (c : Config) (x : Pair) (s : State), c.Wf → 0 ≤ s.amAcc.toInt → s.amAcc.toInt ≤ 65535 * 2 ^ c.kAm →
    let m : Int := (c.mag x.i x.q).toNat
    let e := s.amAcc.toInt / 2 ^ c.kAm
    ∃ (a : Sample) (t : State), demodAm c x s = (some a, t) ∧ t = { s with amAcc := t.amAcc } ∧
      t.amAcc.toInt = s.amAcc.toInt + m - e ∧ 0 ≤ t.amAcc.toInt ∧ t.amAcc.toInt ≤ 65535 * 2 ^ c.kAm ∧
      a.toInt = max (-32768) (min (m - t.amAcc.toInt / 2 ^ c.kAm) 32767) ∧
      (e ≤ m → e ≤ t.amAcc.toInt / 2 ^ c.kAm ∧ t.amAcc.toInt / 2 ^ c.kAm ≤ m) ∧
      (e = m → t.amAcc.toInt / 2 ^ c.kAm = m ∧ a = 0)

/-- R347: for a constant input the AM output is 0 from some call on and stays 0: at the latest after m * 2^K_AM calls from an empty
tracker, each call below the magnitude adding at least 1. That bound on the number of calls is the model's inference. -/
def Obligations.AmOutputOfAConstantEnvelopeFallsToZero : Prop :=
  ∀ (c : Config) (x : Pair) (s : State) (n : Nat), c.Wf → s.amAcc = 0 → (c.mag x.i x.q).toNat * 2 ^ c.kAm ≤ n →
    (demodAm c x ((fun u => (demodAm c x u).2)^[n] s)).1 = some 0

/-- R334: the FM output is the difference of the phases, wrapped to the signed 16-bit range, and the phase is kept for the next
call. -/
def Obligations.FmOutputIsTheWrappedPhaseDifference : Prop :=
  ∀ (c : Config) (x : Pair) (s : State),
    ∃ (d : Sample) (k : Int), demodFm c x s = (some d, { s with fmLast := c.phase x.i x.q }) ∧
      d.toInt = (c.phase x.i x.q).toInt - s.fmLast.toInt + 65536 * k ∧ -32768 ≤ d.toInt ∧ d.toInt ≤ 32767

/-- R335, R336, over the Gaussian integers: the first rotation is the product by j^k with each lane saturated, and the selection the
saturated real part of the product by (-j)^k. Away from -32768 nothing saturates and both are exact; a negated -32768 is 32767. -/
def Obligations.SsbRotationsArePowersOfJ : Prop :=
  ∀ (k : BitVec 2) (x : Pair),
    let z : GaussianInt := ⟨x.i.toInt, x.q.toInt⟩
    (ssbRot k x).i.toInt = max (-32768) (min (z * ⟨0, 1⟩ ^ k.toNat).re 32767) ∧
    (ssbRot k x).q.toInt = max (-32768) (min (z * ⟨0, 1⟩ ^ k.toNat).im 32767) ∧
    (ssbSel k x).toInt = max (-32768) (min (z * ⟨0, -1⟩ ^ k.toNat).re 32767) ∧
    (x.i.toInt ≠ -32768 → x.q.toInt ≠ -32768 →
      (⟨(ssbRot k x).i.toInt, (ssbRot k x).q.toInt⟩ : GaussianInt) = z * ⟨0, 1⟩ ^ k.toNat ∧
      (ssbSel k x).toInt = (z * ⟨0, -1⟩ ^ k.toNat).re) ∧
    (x.i.toInt = -32768 →
      (ssbRot 2 x).i.toInt = 32767 ∧ (ssbRot 3 x).q.toInt = 32767 ∧ (ssbSel 2 x).toInt = 32767) ∧
    (x.q.toInt = -32768 →
      (ssbRot 1 x).i.toInt = 32767 ∧ (ssbRot 2 x).q.toInt = 32767 ∧ (ssbSel 3 x).toInt = 32767)

/-- R338, R339: one call uses the index for the rotation and the selection, calls the filter once with BANDWIDTH, and moves the index
by +1 in USB and by -1 in LSB, modulo 4. That a filter which breaks R337 and gives no sample gives no output, and the index still
moves, is entry 9 (W2). -/
def Obligations.SsbUsesTheIndexAndTurnsIt : Prop :=
  ∀ (c : Config) (x : Pair) (s : State),
    let r := c.ssbFilt.step s.ssbFilt (ssbRot s.ssbIdx x) s.bandwidth
    ∃ t u, demodUsb c x s = (r.2.map (ssbSel s.ssbIdx), t) ∧ demodLsb c x s = (r.2.map (ssbSel s.ssbIdx), u) ∧
      t.ssbIdx.toNat = (s.ssbIdx.toNat + 1) % 4 ∧ u.ssbIdx.toNat = (s.ssbIdx.toNat + 3) % 4 ∧
      t = { s with ssbFilt := r.1, ssbIdx := t.ssbIdx } ∧ u = { s with ssbFilt := r.1, ssbIdx := u.ssbIdx }

/-- R340, R341, R343: the CW cascade runs on every call, a new sample of it sets the magnitude register in the same call, the output
is that register scaled by the sine at the phase before the advance, and the phase advances whether or not a sample came. -/
def Obligations.CwScalesTheSidetoneByTheMagnitude : Prop :=
  ∀ (c : Config) (x : Pair) (s : State), c.Wf →
    ∃ (a : Sample) (t : State), demodCw c x s = (some a, t) ∧
      t.cwMag = (match (cwCall c x s).out with | none => s.cwMag | some y => c.mag y.i y.q) ∧
      a.toInt = max (-32768) (min (t.cwMag.toNat * sinLut c (s.stPhase.toNat / 2 ^ c.phaseToIndex) / 2 ^ c.sLut) 32767) ∧
      t.stPhase.toNat = (s.stPhase.toNat + s.sidetoneInc.toNat) % 2 ^ c.wPhase ∧
      t = { (cwCascade c x s).2 with cwMag := t.cwMag, stPhase := t.stPhase }

/-- R499: after a change into CW the output is 0 until the CW cascade's first sample, which is at the 2*R_CW-th call; that is the
20th of the machine (entry 1). -/
def Obligations.CwIsSilentUntilItsFirstSample : Prop :=
  ∀ (data : Word) (s : State) (xs : List Pair) (x : Pair), data.toNat = 4 → s.mode ≠ .cw →
    ∃ t, exec (.wrMode data) s = .next t ∧
      let u := xs.foldl (fun v y => (demodCw Config.chip y v).2) t
      (xs.length + 1 < 2 * Config.chip.rCw → (cwCall Config.chip x u).out = none ∧ (demodCw Config.chip x u).1 = some 0) ∧
      (xs.length + 1 = 2 * Config.chip.rCw → (cwCall Config.chip x u).out ≠ none)

/-- R345: a mode just activated carries no stale demodulator state into its outputs. Two states that differ only in the groups of
the modes, as they stand before the change, give the same outputs from then on. -/
def Obligations.AModeJustEnteredStartsFresh : Prop :=
  ∀ (data : Word) (s : State) (g : State) (m : Mode) (xs : List Pair) (x : Pair), modeCode m = data.toNat → m ≠ s.mode →
    ∃ t u, exec (.wrMode data) s = .next t ∧
      exec (.wrMode data) { s with
        amAcc := g.amAcc, fmLast := g.fmLast, ssbIdx := g.ssbIdx, ssbFilt := g.ssbFilt, cicCw := g.cicCw
        hb1Cw := g.hb1Cw, hb2Cw := g.hb2Cw, cwMag := g.cwMag, stPhase := g.stPhase } = .next u ∧
      (demod Config.chip x (xs.foldl (fun v y => (demod Config.chip y v).2) t)).1 =
        (demod Config.chip x (xs.foldl (fun v y => (demod Config.chip y v).2) u)).1

/-! ### The AGC -/

/-- R381 to R385: exactly one of attack, hang and decay runs, by the stated conditions in order; the peak never passes the input in
an attack, never rises in a decay, and stays in [0, 32768 * 2^E]. Every well-formed configuration. -/
def Obligations.AgcRunsOnePhaseAndKeepsItsRange : Prop :=
  ∀ (c : Config) (speed : BitVec 2) (x : Sample) (d : Detector), c.Wf →
    0 ≤ d.hold.toInt → d.hold.toInt ≤ 32768 * 2 ^ c.agcExtra →
    let p := agcPreset c speed
    let e : Int := |x.toInt| * 2 ^ c.agcExtra
    let t := agcDetect c p x d
    (d.hold.toInt < e → t.hold.toInt = d.hold.toInt + (e - d.hold.toInt) / 2 ^ p.att ∧ t.hang.toNat = p.hang ∧
      d.hold.toInt ≤ t.hold.toInt ∧ t.hold.toInt ≤ e) ∧
    (e ≤ d.hold.toInt → d.hang ≠ 0 → t.hold = d.hold ∧ t.hang.toNat = d.hang.toNat - 1) ∧
    (e ≤ d.hold.toInt → d.hang = 0 → t.hold.toInt = d.hold.toInt - d.hold.toInt / 2 ^ p.dec ∧ t.hang = 0 ∧
      t.hold.toInt ≤ d.hold.toInt) ∧
    0 ≤ t.hold.toInt ∧ t.hold.toInt ≤ 32768 * 2 ^ c.agcExtra ∧
    0 ≤ agcPeak c t ∧ agcPeak c t ≤ 32768

/-- R392: after a detector state with a hang of H, as many inputs at or below the peak as H are all hang calls with the peak frozen,
and the next such input is the first decay. -/
def Obligations.AgcHangLastsExactlyItsCount : Prop :=
  ∀ (c : Config) (p : AgcPreset) (d : Detector) (xs : List Sample) (x : Sample), xs.length ≤ d.hang.toNat →
    (∀ y ∈ x :: xs, agcInput c y ≤ d.hold.toInt) →
    let u := xs.foldl (fun v y => agcDetect c p y v) d
    u.hold = d.hold ∧ u.hang.toNat = d.hang.toNat - xs.length ∧
    (xs.length < d.hang.toNat → (agcDetect c p x u).hold = d.hold) ∧
    (xs.length = d.hang.toNat → agcDetect c p x u = agcDecay p u)

/-- R386, R387, R388: pass-through at a peak of 0, else the gain floor(SP * 2^G / peak); the excess over the setpoint is halved toward
zero, the same on both sides; then the clamp to 16 bits. -/
def Obligations.AgcGainSoftClipAndClamp : Prop :=
  ∀ (c : Config) (x : Sample) (peak : Int), c.Wf →
    let y : Int := if peak ≤ 0 then x.toInt else
      x.toInt * (c.agcSetpoint * 2 ^ c.agcGainFrac / peak) / 2 ^ c.agcGainFrac
    let z : Int := if |y| ≤ c.agcSetpoint then y else y.sign * (c.agcSetpoint + (|y| - c.agcSetpoint) / 2)
    (agcOutput c x peak).toInt = max (-32768) (min z 32767) ∧
    (∀ v : Int, softClip c.agcSetpoint (-v) = -softClip c.agcSetpoint v)

/-- R380, R389, R390: the AGC runs the detector with the preset AGC_SPEED selects, then the gain of the updated peak, and writes its
detector alone. -/
def Obligations.AgcUsesThePresetAndTheUpdatedPeak : Prop :=
  ∀ (c : Config) (x : Sample) (s : State),
    ∃ (p : AgcPreset) (t : State),
      p = (match s.agcSpeed.toNat with
        | 0 => c.agcPresets.fast
        | 1 => c.agcPresets.medium
        | 2 => c.agcPresets.slow
        | _ => c.agcPresets.long) ∧
      agc c x s = (agcOutput c x (t.agcMaxHold.toInt / 2 ^ c.agcExtra), t) ∧
      t = { s with
        agcMaxHold := (agcDetect c p x ⟨s.agcMaxHold, s.agcHang⟩).hold
        agcHang := (agcDetect c p x ⟨s.agcMaxHold, s.agcHang⟩).hang }

/-! ### Invariants and whole-machine rules -/

/-- The ranges 10_state.md gives the state hold at reset. -/
def Obligations.StateRangesHoldAtReset : Prop := State.reset.Inv

/-- The ranges 10_state.md gives the state are kept by every step from every state that has them. -/
def Obligations.EveryStepKeepsTheStateRanges : Prop :=
  ∀ s t : State, s.Inv → step s = .next t → t.Inv

/-- The alignment of R216 holds at reset. -/
def Obligations.DecimationIsAlignedAtReset : Prop := State.reset.Aligned

/-- R216, R319 for the machine's numbers (entry 1) and any collaborators that keep their laws (entry 3): the alignment is kept by
every step, so every block has 100 final-ready samples, OUT_COUNT is 400, and no copy is ever dropped (R211). -/
def Obligations.EveryStepKeepsTheDecimationAligned : Prop :=
  ∀ s t : State, s.Aligned → step s = .next t → t.Aligned

/-- R106: a read changes nothing but its response and the model's count of draws (entry 5); every write but one to ADC_DATA is
idempotent; a write to ADC_DATA never is. -/
def Obligations.ReadsAreSilentAndWritesIdempotent : Prop :=
  ∀ (i : Instr) (s : State), ∃ t u, exec i s = .next t ∧ exec i t = .next u ∧
    (i.isWrite = false → t = { s with rdata := t.rdata, perfDraws := t.perfDraws }) ∧
    (i.isWrite = true → (∀ data, i ≠ .pushCode data) → u = t) ∧
    (∀ data, i = .pushCode data → u ≠ t)

/-- R52: a flag once set is cleared only by a WR_STATUS with a 1 at its bit. -/
def Obligations.OnlyWrStatusClearsAFlag : Prop :=
  ∀ (s : State) (b : Nat), s.status.getLsbD b = true → ∃ t, step s = .next t ∧
    (t.status.getLsbD b = true ∨
      ∃ u rest data, s.bus = u :: rest ∧ decode u = .ok (.wrStatus data) ∧ data.getLsbD b = true)

/-- R52, R62, R424: no rule of the datapath reads a flag or GAIN_CAL. Other flags and another calibration before a transaction that
is not about them are there after it, and nothing else differs. -/
def Obligations.NothingReadsTheFlagsOrTheCalibration : Prop :=
  ∀ (i : Instr) (s : State) (f : BitVec 6) (g : Word),
    (∀ data, i ≠ .wrStatus data) → i ≠ .rdStatus → (∀ data, i ≠ .wrGainCal data) → i ≠ .rdGainCal →
    ∃ t, exec i s = .next t ∧
      exec i { s with status := s.status ||| f, gainCal := g } = .next { t with status := t.status ||| f, gainCal := g }

/-- R471: `irq` is the OR of the two event bits, so the error bits do not drive it, and clearing both bits lowers it (R410). From R54,
R112, R205 and R215: a PUSH_CODE of index CAP_LEN - 1 or N_BLOCK - 1 leaves it high, and from low it rises in no other step. -/
def Obligations.IrqRisesAtPublicationsAndFallsWhenCleared : Prop :=
  (∀ s : State, s.irq = true ↔ s.status.getLsbD 0 = true ∨ s.status.getLsbD 1 = true) ∧
  (∀ s : State, s.irq = false → ∃ t, step s = .next t ∧ (t.irq = true →
    (s.blkN + 1 = Config.chip.capLen ∨ s.blkN + 1 = Config.chip.nBlock) ∧
    ∃ u rest, s.bus = u :: rest ∧ isPush u = true)) ∧
  (∀ (data : Word) (s : State), s.blkN + 1 = Config.chip.capLen ∨ s.blkN + 1 = Config.chip.nBlock →
    ∃ t, exec (.pushCode data) s = .next t ∧ t.irq = true) ∧
  (∀ (data : Word) (s : State), data.getLsbD 0 = true → data.getLsbD 1 = true →
    ∃ t, exec (.wrStatus data) s = .next t ∧ t.irq = false)

/-- R115, R497, R498: the handoff. Over fewer than 2^32 transactions, if CAP_SEQ reads the same after them as before, the capture
window is one window throughout; if BLK_SEQ reads the same, so are the audio block, its count and the signal strength. -/
def Obligations.EqualCountsMeanOnePublishedWindow : Prop :=
  ∀ (m n : Nat) (s : State), m ≤ n → n < 2 ^ 32 →
    ∃ t u, Host.Core.run Sys2Proof.core m s = .next t ∧ Host.Core.run Sys2Proof.core n s = .next u ∧
      (u.capSeq = s.capSeq → t.capI = s.capI ∧ t.capQ = s.capQ) ∧
      (u.blkSeq = s.blkSeq →
        t.audioOut = s.audioOut ∧ t.outCount = s.outCount ∧ t.signalStrength = s.signalStrength)

/-! ### The look-up tables -/

/-- R76, R250, R251, R252 for the tables of the machine (entry 1): COS_LUT is SIN_LUT a quarter wave on; the symmetries of the quarter
wave; a first quarter that never falls, with entries R250 prints. That each pair of entries lies on the circle of the amplitude and is
the pair before it turned by the angle of one index, both within the rounding of the entries, is the model's inference from the
formula of R250. -/
def Obligations.LookUpTablesAreOneSineWave : Prop :=
  (∀ k : Nat, k < 1024 →
    let sin := sinLut Config.chip
    let cos := cosLut Config.chip
    cos k = sin ((k + 256) % 1024) ∧
    (256 < k → k < 512 → sin k = sin (512 - k)) ∧
    (512 ≤ k → sin k = -sin (k - 512)) ∧
    (k < 256 → sin k ≤ sin (k + 1)) ∧
    |sin k ^ 2 + cos k ^ 2 - 32767 ^ 2| ≤ 46341 ∧
    |32767 * sin ((k + 1) % 1024) - (sin k * 32766 + cos k * 201)| ≤ 2 * 32767) ∧
  [0, 1, 64, 128, 192, 255, 256].map (sinLut Config.chip) = [0, 201, 12539, 23170, 30273, 32766, 32767] ∧
  [0, 128, 256, 512, 768].map (cosLut Config.chip) = [32767, 23170, 0, -32767, 0] ∧
  ∀ ph : BitVec 32, lutIndex Config.chip ph = ph.toNat / 2 ^ 22 ∧ lutIndex Config.chip ph < 1024

end Statements
end

