-- ==== Sys2Proof/Laws/Arith.lean ====
section
/-!
SUPPORT. What the arithmetic of R11 can do: ranges, stores that read back, wrap-around, nearest-integer rounding.
-/
namespace Sys2Proof.Machine

theorem pow2_pos (n : Nat) : (0 : Int) < 2 ^ n := by positivity

/-- `umod` is below `2^n`. -/
theorem umod_lt (n : Nat) (v : Int) : umod n v < 2 ^ n := by
  have h := pow2_pos n
  have := Int.emod_lt_of_pos v h
  have := Int.emod_nonneg v h.ne'
  unfold umod
  zify
  omega

/-- `umod` as an integer. -/
theorem umod_cast (n : Nat) (v : Int) : (umod n v : Int) = v % 2 ^ n := by
  unfold umod
  exact Int.toNat_of_nonneg (Int.emod_nonneg v (pow2_pos n).ne')

/-- A value in range is its own `umod`. -/
theorem umod_of_lt (n : Nat) (v : Nat) (h : v < 2 ^ n) : umod n v = v := by
  have h1 := umod_cast n v
  rw [Int.emod_eq_of_lt (by omega) (by exact_mod_cast h)] at h1
  exact_mod_cast h1

/-- A register store of at most 64 bits holds `umod_W(v)` exactly. -/
theorem reg64_toNat (w : Nat) (v : Int) (h : w ≤ 64) : (reg64 w v).toNat = umod w v := by
  have := umod_lt w v
  have : 2 ^ w ≤ 2 ^ 64 := Nat.pow_le_pow_right (by decide) h
  simp only [reg64, BitVec.toNat_ofNat]
  omega

theorem reg32_toNat (w : Nat) (v : Int) (h : w ≤ 32) : (reg32 w v).toNat = umod w v := by
  have := umod_lt w v
  have : 2 ^ w ≤ 2 ^ 32 := Nat.pow_le_pow_right (by decide) h
  simp only [reg32, BitVec.toNat_ofNat]
  omega

/-- Adding the pattern of a register is adding its value modulo 2^w. -/
theorem umod_add_umod (w : Nat) (a b : Int) : umod w (umod w a + b) = umod w (a + b) := by
  have h : ((umod w (umod w a + b) : Nat) : Int) = (umod w (a + b) : Nat) := by
    simp only [umod_cast, Int.emod_add_emod]
  exact_mod_cast h

/-- `sat16` gives a 16-bit value. -/
theorem sat16_bounds (v : Int) : -32768 ≤ sat16 v ∧ sat16 v ≤ 32767 := by
  unfold sat16 clamp
  omega

/-- `sat16` leaves a 16-bit value alone. -/
theorem sat16_of_mem (v : Int) (h : -32768 ≤ v ∧ v ≤ 32767) : sat16 v = v := by
  unfold sat16 clamp
  omega

/-- The sample of a 16-bit value reads back as the value. -/
theorem toSample_toInt (v : Int) (h : -32768 ≤ v ∧ v ≤ 32767) : (toSample v).toInt = v := by
  unfold toSample
  rw [BitVec.toInt_ofInt]
  exact Int.bmod_eq_of_le (by omega) (by omega)

/-- A saturated sample reads back as the saturated value. -/
theorem toSample_sat16 (v : Int) : (toSample (sat16 v)).toInt = sat16 v :=
  toSample_toInt _ (sat16_bounds v)

/-- A sample's range. -/
theorem sample_bounds (x : Sample) : -32768 ≤ x.toInt ∧ x.toInt ≤ 32767 := by
  have h1 := BitVec.le_toInt x
  have h2 := BitVec.toInt_lt (x := x)
  omega

/-- The magnitude of a sample is at most 32768. -/
theorem sample_natAbs (x : Sample) : x.toInt.natAbs ≤ 32768 := by
  have := sample_bounds x
  omega

/-- The arithmetic shift of a value from 0 up lies between 0 and the value. -/
theorem asr_bounds (v : Int) (s : Nat) (h : 0 ≤ v) : 0 ≤ asr v s ∧ asr v s ≤ v := by
  unfold asr
  exact ⟨Int.ediv_nonneg h (pow2_pos s).le, Int.ediv_le_self _ h⟩

/-- A 32-bit signed store of a value in range reads back as the value. -/
theorem toInt_ofInt32 (v : Int) (h : -2147483648 ≤ v ∧ v ≤ 2147483647) : (BitVec.ofInt 32 v).toInt = v := by
  rw [BitVec.toInt_ofInt]
  exact Int.bmod_eq_of_le (by omega) (by omega)

/-- A 64-bit signed store of a value in range reads back as the value. -/
theorem toInt_ofInt64 (v : Int) (h : -(2 : Int) ^ 63 ≤ v ∧ v < 2 ^ 63) : (BitVec.ofInt 64 v).toInt = v := by
  rw [BitVec.toInt_ofInt]
  exact Int.bmod_eq_of_le (by omega) (by omega)

/-- `rhaz` is a nearest integer: twice its distance from num / den is at most 1 (in units of 1 / den). -/
theorem rhaz_nearest (num : Int) (den : Nat) (h : 0 < den) :
    2 * (rhaz num den * den - num) ≤ den ∧ -(den : Int) ≤ 2 * (rhaz num den * den - num) := by
  have hd : (0 : Int) < 2 * den := by omega
  unfold rhaz
  split
  · have h1 := Int.mul_ediv_add_emod (2 * num + den) (2 * den)
    have h2 := Int.emod_nonneg (2 * num + den) hd.ne'
    have h3 := Int.emod_lt_of_pos (2 * num + den) hd
    generalize (2 * num + (den : Int)) / (2 * den) = q at *
    constructor <;> nlinarith
  · have h1 := Int.mul_ediv_add_emod (2 * -num + den) (2 * den)
    have h2 := Int.emod_nonneg (2 * -num + den) hd.ne'
    have h3 := Int.emod_lt_of_pos (2 * -num + den) hd
    generalize (2 * -num + (den : Int)) / (2 * den) = q at *
    constructor <;> nlinarith

end Sys2Proof.Machine
end

