-- ==== Sys2Proof/Laws/State.lean ====
section
/-!
SUPPORT. One lemma per field per update of the state by the shared operations: later proofs never unfold a record update.
-/
namespace Sys2Proof.Machine

@[simp] theorem setFlag_ncoPhase (f : BitVec 6) (s : State) : (s.setFlag f).ncoPhase = s.ncoPhase := rfl
@[simp] theorem setFlag_cicMain (f : BitVec 6) (s : State) : (s.setFlag f).cicMain = s.cicMain := rfl
@[simp] theorem setFlag_cicCw (f : BitVec 6) (s : State) : (s.setFlag f).cicCw = s.cicCw := rfl
@[simp] theorem setFlag_hb1Main (f : BitVec 6) (s : State) : (s.setFlag f).hb1Main = s.hb1Main := rfl
@[simp] theorem setFlag_hb2Main (f : BitVec 6) (s : State) : (s.setFlag f).hb2Main = s.hb2Main := rfl
@[simp] theorem setFlag_hb1Cw (f : BitVec 6) (s : State) : (s.setFlag f).hb1Cw = s.hb1Cw := rfl
@[simp] theorem setFlag_hb2Cw (f : BitVec 6) (s : State) : (s.setFlag f).hb2Cw = s.hb2Cw := rfl
@[simp] theorem setFlag_amAcc (f : BitVec 6) (s : State) : (s.setFlag f).amAcc = s.amAcc := rfl
@[simp] theorem setFlag_fmLast (f : BitVec 6) (s : State) : (s.setFlag f).fmLast = s.fmLast := rfl
@[simp] theorem setFlag_ssbIdx (f : BitVec 6) (s : State) : (s.setFlag f).ssbIdx = s.ssbIdx := rfl
@[simp] theorem setFlag_ssbFilt (f : BitVec 6) (s : State) : (s.setFlag f).ssbFilt = s.ssbFilt := rfl
@[simp] theorem setFlag_cwMag (f : BitVec 6) (s : State) : (s.setFlag f).cwMag = s.cwMag := rfl
@[simp] theorem setFlag_stPhase (f : BitVec 6) (s : State) : (s.setFlag f).stPhase = s.stPhase := rfl
@[simp] theorem setFlag_agcMaxHold (f : BitVec 6) (s : State) : (s.setFlag f).agcMaxHold = s.agcMaxHold := rfl
@[simp] theorem setFlag_agcHang (f : BitVec 6) (s : State) : (s.setFlag f).agcHang = s.agcHang := rfl
@[simp] theorem setFlag_blkN (f : BitVec 6) (s : State) : (s.setFlag f).blkN = s.blkN := rfl
@[simp] theorem setFlag_magSum (f : BitVec 6) (s : State) : (s.setFlag f).magSum = s.magSum := rfl
@[simp] theorem setFlag_workBuf (f : BitVec 6) (s : State) : (s.setFlag f).workBuf = s.workBuf := rfl
@[simp] theorem setFlag_workCount (f : BitVec 6) (s : State) : (s.setFlag f).workCount = s.workCount := rfl
@[simp] theorem setFlag_capShI (f : BitVec 6) (s : State) : (s.setFlag f).capShI = s.capShI := rfl
@[simp] theorem setFlag_capShQ (f : BitVec 6) (s : State) : (s.setFlag f).capShQ = s.capShQ := rfl
@[simp] theorem setFlag_status (f : BitVec 6) (s : State) : (s.setFlag f).status = s.status ||| f := rfl
@[simp] theorem setFlag_freqOffset (f : BitVec 6) (s : State) : (s.setFlag f).freqOffset = s.freqOffset := rfl
@[simp] theorem setFlag_freqWord (f : BitVec 6) (s : State) : (s.setFlag f).freqWord = s.freqWord := rfl
@[simp] theorem setFlag_mode (f : BitVec 6) (s : State) : (s.setFlag f).mode = s.mode := rfl
@[simp] theorem setFlag_bandwidth (f : BitVec 6) (s : State) : (s.setFlag f).bandwidth = s.bandwidth := rfl
@[simp] theorem setFlag_agcSpeed (f : BitVec 6) (s : State) : (s.setFlag f).agcSpeed = s.agcSpeed := rfl
@[simp] theorem setFlag_cwSidetone (f : BitVec 6) (s : State) : (s.setFlag f).cwSidetone = s.cwSidetone := rfl
@[simp] theorem setFlag_sidetoneInc (f : BitVec 6) (s : State) : (s.setFlag f).sidetoneInc = s.sidetoneInc := rfl
@[simp] theorem setFlag_gainCal (f : BitVec 6) (s : State) : (s.setFlag f).gainCal = s.gainCal := rfl
@[simp] theorem setFlag_volume (f : BitVec 6) (s : State) : (s.setFlag f).volume = s.volume := rfl
@[simp] theorem setFlag_squelch (f : BitVec 6) (s : State) : (s.setFlag f).squelch = s.squelch := rfl
@[simp] theorem setFlag_iqSwap (f : BitVec 6) (s : State) : (s.setFlag f).iqSwap = s.iqSwap := rfl
@[simp] theorem setFlag_pwmMax (f : BitVec 6) (s : State) : (s.setFlag f).pwmMax = s.pwmMax := rfl
@[simp] theorem setFlag_signalStrength (f : BitVec 6) (s : State) : (s.setFlag f).signalStrength = s.signalStrength := rfl
@[simp] theorem setFlag_outCount (f : BitVec 6) (s : State) : (s.setFlag f).outCount = s.outCount := rfl
@[simp] theorem setFlag_capSeq (f : BitVec 6) (s : State) : (s.setFlag f).capSeq = s.capSeq := rfl
@[simp] theorem setFlag_blkSeq (f : BitVec 6) (s : State) : (s.setFlag f).blkSeq = s.blkSeq := rfl
@[simp] theorem setFlag_capI (f : BitVec 6) (s : State) : (s.setFlag f).capI = s.capI := rfl
@[simp] theorem setFlag_capQ (f : BitVec 6) (s : State) : (s.setFlag f).capQ = s.capQ := rfl
@[simp] theorem setFlag_audioOut (f : BitVec 6) (s : State) : (s.setFlag f).audioOut = s.audioOut := rfl
@[simp] theorem setFlag_perfDraws (f : BitVec 6) (s : State) : (s.setFlag f).perfDraws = s.perfDraws := rfl
@[simp] theorem setFlag_rdata (f : BitVec 6) (s : State) : (s.setFlag f).rdata = s.rdata := rfl
@[simp] theorem setFlag_bus (f : BitVec 6) (s : State) : (s.setFlag f).bus = s.bus := rfl

@[simp] theorem clearFlags_ncoPhase (m : BitVec 6) (s : State) : (s.clearFlags m).ncoPhase = s.ncoPhase := rfl
@[simp] theorem clearFlags_cicMain (m : BitVec 6) (s : State) : (s.clearFlags m).cicMain = s.cicMain := rfl
@[simp] theorem clearFlags_cicCw (m : BitVec 6) (s : State) : (s.clearFlags m).cicCw = s.cicCw := rfl
@[simp] theorem clearFlags_hb1Main (m : BitVec 6) (s : State) : (s.clearFlags m).hb1Main = s.hb1Main := rfl
@[simp] theorem clearFlags_hb2Main (m : BitVec 6) (s : State) : (s.clearFlags m).hb2Main = s.hb2Main := rfl
@[simp] theorem clearFlags_hb1Cw (m : BitVec 6) (s : State) : (s.clearFlags m).hb1Cw = s.hb1Cw := rfl
@[simp] theorem clearFlags_hb2Cw (m : BitVec 6) (s : State) : (s.clearFlags m).hb2Cw = s.hb2Cw := rfl
@[simp] theorem clearFlags_amAcc (m : BitVec 6) (s : State) : (s.clearFlags m).amAcc = s.amAcc := rfl
@[simp] theorem clearFlags_fmLast (m : BitVec 6) (s : State) : (s.clearFlags m).fmLast = s.fmLast := rfl
@[simp] theorem clearFlags_ssbIdx (m : BitVec 6) (s : State) : (s.clearFlags m).ssbIdx = s.ssbIdx := rfl
@[simp] theorem clearFlags_ssbFilt (m : BitVec 6) (s : State) : (s.clearFlags m).ssbFilt = s.ssbFilt := rfl
@[simp] theorem clearFlags_cwMag (m : BitVec 6) (s : State) : (s.clearFlags m).cwMag = s.cwMag := rfl
@[simp] theorem clearFlags_stPhase (m : BitVec 6) (s : State) : (s.clearFlags m).stPhase = s.stPhase := rfl
@[simp] theorem clearFlags_agcMaxHold (m : BitVec 6) (s : State) : (s.clearFlags m).agcMaxHold = s.agcMaxHold := rfl
@[simp] theorem clearFlags_agcHang (m : BitVec 6) (s : State) : (s.clearFlags m).agcHang = s.agcHang := rfl
@[simp] theorem clearFlags_blkN (m : BitVec 6) (s : State) : (s.clearFlags m).blkN = s.blkN := rfl
@[simp] theorem clearFlags_magSum (m : BitVec 6) (s : State) : (s.clearFlags m).magSum = s.magSum := rfl
@[simp] theorem clearFlags_workBuf (m : BitVec 6) (s : State) : (s.clearFlags m).workBuf = s.workBuf := rfl
@[simp] theorem clearFlags_workCount (m : BitVec 6) (s : State) : (s.clearFlags m).workCount = s.workCount := rfl
@[simp] theorem clearFlags_capShI (m : BitVec 6) (s : State) : (s.clearFlags m).capShI = s.capShI := rfl
@[simp] theorem clearFlags_capShQ (m : BitVec 6) (s : State) : (s.clearFlags m).capShQ = s.capShQ := rfl
@[simp] theorem clearFlags_status (m : BitVec 6) (s : State) : (s.clearFlags m).status = s.status &&& ~~~m := rfl
@[simp] theorem clearFlags_freqOffset (m : BitVec 6) (s : State) : (s.clearFlags m).freqOffset = s.freqOffset := rfl
@[simp] theorem clearFlags_freqWord (m : BitVec 6) (s : State) : (s.clearFlags m).freqWord = s.freqWord := rfl
@[simp] theorem clearFlags_mode (m : BitVec 6) (s : State) : (s.clearFlags m).mode = s.mode := rfl
@[simp] theorem clearFlags_bandwidth (m : BitVec 6) (s : State) : (s.clearFlags m).bandwidth = s.bandwidth := rfl
@[simp] theorem clearFlags_agcSpeed (m : BitVec 6) (s : State) : (s.clearFlags m).agcSpeed = s.agcSpeed := rfl
@[simp] theorem clearFlags_cwSidetone (m : BitVec 6) (s : State) : (s.clearFlags m).cwSidetone = s.cwSidetone := rfl
@[simp] theorem clearFlags_sidetoneInc (m : BitVec 6) (s : State) : (s.clearFlags m).sidetoneInc = s.sidetoneInc := rfl
@[simp] theorem clearFlags_gainCal (m : BitVec 6) (s : State) : (s.clearFlags m).gainCal = s.gainCal := rfl
@[simp] theorem clearFlags_volume (m : BitVec 6) (s : State) : (s.clearFlags m).volume = s.volume := rfl
@[simp] theorem clearFlags_squelch (m : BitVec 6) (s : State) : (s.clearFlags m).squelch = s.squelch := rfl
@[simp] theorem clearFlags_iqSwap (m : BitVec 6) (s : State) : (s.clearFlags m).iqSwap = s.iqSwap := rfl
@[simp] theorem clearFlags_pwmMax (m : BitVec 6) (s : State) : (s.clearFlags m).pwmMax = s.pwmMax := rfl
@[simp] theorem clearFlags_signalStrength (m : BitVec 6) (s : State) : (s.clearFlags m).signalStrength = s.signalStrength := rfl
@[simp] theorem clearFlags_outCount (m : BitVec 6) (s : State) : (s.clearFlags m).outCount = s.outCount := rfl
@[simp] theorem clearFlags_capSeq (m : BitVec 6) (s : State) : (s.clearFlags m).capSeq = s.capSeq := rfl
@[simp] theorem clearFlags_blkSeq (m : BitVec 6) (s : State) : (s.clearFlags m).blkSeq = s.blkSeq := rfl
@[simp] theorem clearFlags_capI (m : BitVec 6) (s : State) : (s.clearFlags m).capI = s.capI := rfl
@[simp] theorem clearFlags_capQ (m : BitVec 6) (s : State) : (s.clearFlags m).capQ = s.capQ := rfl
@[simp] theorem clearFlags_audioOut (m : BitVec 6) (s : State) : (s.clearFlags m).audioOut = s.audioOut := rfl
@[simp] theorem clearFlags_perfDraws (m : BitVec 6) (s : State) : (s.clearFlags m).perfDraws = s.perfDraws := rfl
@[simp] theorem clearFlags_rdata (m : BitVec 6) (s : State) : (s.clearFlags m).rdata = s.rdata := rfl
@[simp] theorem clearFlags_bus (m : BitVec 6) (s : State) : (s.clearFlags m).bus = s.bus := rfl

@[simp] theorem respond_ncoPhase (v : Word) (s : State) : (s.respond v).ncoPhase = s.ncoPhase := rfl
@[simp] theorem respond_cicMain (v : Word) (s : State) : (s.respond v).cicMain = s.cicMain := rfl
@[simp] theorem respond_cicCw (v : Word) (s : State) : (s.respond v).cicCw = s.cicCw := rfl
@[simp] theorem respond_hb1Main (v : Word) (s : State) : (s.respond v).hb1Main = s.hb1Main := rfl
@[simp] theorem respond_hb2Main (v : Word) (s : State) : (s.respond v).hb2Main = s.hb2Main := rfl
@[simp] theorem respond_hb1Cw (v : Word) (s : State) : (s.respond v).hb1Cw = s.hb1Cw := rfl
@[simp] theorem respond_hb2Cw (v : Word) (s : State) : (s.respond v).hb2Cw = s.hb2Cw := rfl
@[simp] theorem respond_amAcc (v : Word) (s : State) : (s.respond v).amAcc = s.amAcc := rfl
@[simp] theorem respond_fmLast (v : Word) (s : State) : (s.respond v).fmLast = s.fmLast := rfl
@[simp] theorem respond_ssbIdx (v : Word) (s : State) : (s.respond v).ssbIdx = s.ssbIdx := rfl
@[simp] theorem respond_ssbFilt (v : Word) (s : State) : (s.respond v).ssbFilt = s.ssbFilt := rfl
@[simp] theorem respond_cwMag (v : Word) (s : State) : (s.respond v).cwMag = s.cwMag := rfl
@[simp] theorem respond_stPhase (v : Word) (s : State) : (s.respond v).stPhase = s.stPhase := rfl
@[simp] theorem respond_agcMaxHold (v : Word) (s : State) : (s.respond v).agcMaxHold = s.agcMaxHold := rfl
@[simp] theorem respond_agcHang (v : Word) (s : State) : (s.respond v).agcHang = s.agcHang := rfl
@[simp] theorem respond_blkN (v : Word) (s : State) : (s.respond v).blkN = s.blkN := rfl
@[simp] theorem respond_magSum (v : Word) (s : State) : (s.respond v).magSum = s.magSum := rfl
@[simp] theorem respond_workBuf (v : Word) (s : State) : (s.respond v).workBuf = s.workBuf := rfl
@[simp] theorem respond_workCount (v : Word) (s : State) : (s.respond v).workCount = s.workCount := rfl
@[simp] theorem respond_capShI (v : Word) (s : State) : (s.respond v).capShI = s.capShI := rfl
@[simp] theorem respond_capShQ (v : Word) (s : State) : (s.respond v).capShQ = s.capShQ := rfl
@[simp] theorem respond_status (v : Word) (s : State) : (s.respond v).status = s.status := rfl
@[simp] theorem respond_freqOffset (v : Word) (s : State) : (s.respond v).freqOffset = s.freqOffset := rfl
@[simp] theorem respond_freqWord (v : Word) (s : State) : (s.respond v).freqWord = s.freqWord := rfl
@[simp] theorem respond_mode (v : Word) (s : State) : (s.respond v).mode = s.mode := rfl
@[simp] theorem respond_bandwidth (v : Word) (s : State) : (s.respond v).bandwidth = s.bandwidth := rfl
@[simp] theorem respond_agcSpeed (v : Word) (s : State) : (s.respond v).agcSpeed = s.agcSpeed := rfl
@[simp] theorem respond_cwSidetone (v : Word) (s : State) : (s.respond v).cwSidetone = s.cwSidetone := rfl
@[simp] theorem respond_sidetoneInc (v : Word) (s : State) : (s.respond v).sidetoneInc = s.sidetoneInc := rfl
@[simp] theorem respond_gainCal (v : Word) (s : State) : (s.respond v).gainCal = s.gainCal := rfl
@[simp] theorem respond_volume (v : Word) (s : State) : (s.respond v).volume = s.volume := rfl
@[simp] theorem respond_squelch (v : Word) (s : State) : (s.respond v).squelch = s.squelch := rfl
@[simp] theorem respond_iqSwap (v : Word) (s : State) : (s.respond v).iqSwap = s.iqSwap := rfl
@[simp] theorem respond_pwmMax (v : Word) (s : State) : (s.respond v).pwmMax = s.pwmMax := rfl
@[simp] theorem respond_signalStrength (v : Word) (s : State) : (s.respond v).signalStrength = s.signalStrength := rfl
@[simp] theorem respond_outCount (v : Word) (s : State) : (s.respond v).outCount = s.outCount := rfl
@[simp] theorem respond_capSeq (v : Word) (s : State) : (s.respond v).capSeq = s.capSeq := rfl
@[simp] theorem respond_blkSeq (v : Word) (s : State) : (s.respond v).blkSeq = s.blkSeq := rfl
@[simp] theorem respond_capI (v : Word) (s : State) : (s.respond v).capI = s.capI := rfl
@[simp] theorem respond_capQ (v : Word) (s : State) : (s.respond v).capQ = s.capQ := rfl
@[simp] theorem respond_audioOut (v : Word) (s : State) : (s.respond v).audioOut = s.audioOut := rfl
@[simp] theorem respond_perfDraws (v : Word) (s : State) : (s.respond v).perfDraws = s.perfDraws := rfl
@[simp] theorem respond_rdata (v : Word) (s : State) : (s.respond v).rdata = some v := rfl
@[simp] theorem respond_bus (v : Word) (s : State) : (s.respond v).bus = s.bus := rfl

@[simp] theorem noResponse_ncoPhase (s : State) : s.noResponse.ncoPhase = s.ncoPhase := rfl
@[simp] theorem noResponse_cicMain (s : State) : s.noResponse.cicMain = s.cicMain := rfl
@[simp] theorem noResponse_cicCw (s : State) : s.noResponse.cicCw = s.cicCw := rfl
@[simp] theorem noResponse_hb1Main (s : State) : s.noResponse.hb1Main = s.hb1Main := rfl
@[simp] theorem noResponse_hb2Main (s : State) : s.noResponse.hb2Main = s.hb2Main := rfl
@[simp] theorem noResponse_hb1Cw (s : State) : s.noResponse.hb1Cw = s.hb1Cw := rfl
@[simp] theorem noResponse_hb2Cw (s : State) : s.noResponse.hb2Cw = s.hb2Cw := rfl
@[simp] theorem noResponse_amAcc (s : State) : s.noResponse.amAcc = s.amAcc := rfl
@[simp] theorem noResponse_fmLast (s : State) : s.noResponse.fmLast = s.fmLast := rfl
@[simp] theorem noResponse_ssbIdx (s : State) : s.noResponse.ssbIdx = s.ssbIdx := rfl
@[simp] theorem noResponse_ssbFilt (s : State) : s.noResponse.ssbFilt = s.ssbFilt := rfl
@[simp] theorem noResponse_cwMag (s : State) : s.noResponse.cwMag = s.cwMag := rfl
@[simp] theorem noResponse_stPhase (s : State) : s.noResponse.stPhase = s.stPhase := rfl
@[simp] theorem noResponse_agcMaxHold (s : State) : s.noResponse.agcMaxHold = s.agcMaxHold := rfl
@[simp] theorem noResponse_agcHang (s : State) : s.noResponse.agcHang = s.agcHang := rfl
@[simp] theorem noResponse_blkN (s : State) : s.noResponse.blkN = s.blkN := rfl
@[simp] theorem noResponse_magSum (s : State) : s.noResponse.magSum = s.magSum := rfl
@[simp] theorem noResponse_workBuf (s : State) : s.noResponse.workBuf = s.workBuf := rfl
@[simp] theorem noResponse_workCount (s : State) : s.noResponse.workCount = s.workCount := rfl
@[simp] theorem noResponse_capShI (s : State) : s.noResponse.capShI = s.capShI := rfl
@[simp] theorem noResponse_capShQ (s : State) : s.noResponse.capShQ = s.capShQ := rfl
@[simp] theorem noResponse_status (s : State) : s.noResponse.status = s.status := rfl
@[simp] theorem noResponse_freqOffset (s : State) : s.noResponse.freqOffset = s.freqOffset := rfl
@[simp] theorem noResponse_freqWord (s : State) : s.noResponse.freqWord = s.freqWord := rfl
@[simp] theorem noResponse_mode (s : State) : s.noResponse.mode = s.mode := rfl
@[simp] theorem noResponse_bandwidth (s : State) : s.noResponse.bandwidth = s.bandwidth := rfl
@[simp] theorem noResponse_agcSpeed (s : State) : s.noResponse.agcSpeed = s.agcSpeed := rfl
@[simp] theorem noResponse_cwSidetone (s : State) : s.noResponse.cwSidetone = s.cwSidetone := rfl
@[simp] theorem noResponse_sidetoneInc (s : State) : s.noResponse.sidetoneInc = s.sidetoneInc := rfl
@[simp] theorem noResponse_gainCal (s : State) : s.noResponse.gainCal = s.gainCal := rfl
@[simp] theorem noResponse_volume (s : State) : s.noResponse.volume = s.volume := rfl
@[simp] theorem noResponse_squelch (s : State) : s.noResponse.squelch = s.squelch := rfl
@[simp] theorem noResponse_iqSwap (s : State) : s.noResponse.iqSwap = s.iqSwap := rfl
@[simp] theorem noResponse_pwmMax (s : State) : s.noResponse.pwmMax = s.pwmMax := rfl
@[simp] theorem noResponse_signalStrength (s : State) : s.noResponse.signalStrength = s.signalStrength := rfl
@[simp] theorem noResponse_outCount (s : State) : s.noResponse.outCount = s.outCount := rfl
@[simp] theorem noResponse_capSeq (s : State) : s.noResponse.capSeq = s.capSeq := rfl
@[simp] theorem noResponse_blkSeq (s : State) : s.noResponse.blkSeq = s.blkSeq := rfl
@[simp] theorem noResponse_capI (s : State) : s.noResponse.capI = s.capI := rfl
@[simp] theorem noResponse_capQ (s : State) : s.noResponse.capQ = s.capQ := rfl
@[simp] theorem noResponse_audioOut (s : State) : s.noResponse.audioOut = s.audioOut := rfl
@[simp] theorem noResponse_perfDraws (s : State) : s.noResponse.perfDraws = s.perfDraws := rfl
@[simp] theorem noResponse_rdata (s : State) : s.noResponse.rdata = none := rfl
@[simp] theorem noResponse_bus (s : State) : s.noResponse.bus = s.bus := rfl

@[simp] theorem deliver_ncoPhase (t : BusTxn) (s : State) : (s.deliver t).ncoPhase = s.ncoPhase := rfl
@[simp] theorem deliver_cicMain (t : BusTxn) (s : State) : (s.deliver t).cicMain = s.cicMain := rfl
@[simp] theorem deliver_cicCw (t : BusTxn) (s : State) : (s.deliver t).cicCw = s.cicCw := rfl
@[simp] theorem deliver_hb1Main (t : BusTxn) (s : State) : (s.deliver t).hb1Main = s.hb1Main := rfl
@[simp] theorem deliver_hb2Main (t : BusTxn) (s : State) : (s.deliver t).hb2Main = s.hb2Main := rfl
@[simp] theorem deliver_hb1Cw (t : BusTxn) (s : State) : (s.deliver t).hb1Cw = s.hb1Cw := rfl
@[simp] theorem deliver_hb2Cw (t : BusTxn) (s : State) : (s.deliver t).hb2Cw = s.hb2Cw := rfl
@[simp] theorem deliver_amAcc (t : BusTxn) (s : State) : (s.deliver t).amAcc = s.amAcc := rfl
@[simp] theorem deliver_fmLast (t : BusTxn) (s : State) : (s.deliver t).fmLast = s.fmLast := rfl
@[simp] theorem deliver_ssbIdx (t : BusTxn) (s : State) : (s.deliver t).ssbIdx = s.ssbIdx := rfl
@[simp] theorem deliver_ssbFilt (t : BusTxn) (s : State) : (s.deliver t).ssbFilt = s.ssbFilt := rfl
@[simp] theorem deliver_cwMag (t : BusTxn) (s : State) : (s.deliver t).cwMag = s.cwMag := rfl
@[simp] theorem deliver_stPhase (t : BusTxn) (s : State) : (s.deliver t).stPhase = s.stPhase := rfl
@[simp] theorem deliver_agcMaxHold (t : BusTxn) (s : State) : (s.deliver t).agcMaxHold = s.agcMaxHold := rfl
@[simp] theorem deliver_agcHang (t : BusTxn) (s : State) : (s.deliver t).agcHang = s.agcHang := rfl
@[simp] theorem deliver_blkN (t : BusTxn) (s : State) : (s.deliver t).blkN = s.blkN := rfl
@[simp] theorem deliver_magSum (t : BusTxn) (s : State) : (s.deliver t).magSum = s.magSum := rfl
@[simp] theorem deliver_workBuf (t : BusTxn) (s : State) : (s.deliver t).workBuf = s.workBuf := rfl
@[simp] theorem deliver_workCount (t : BusTxn) (s : State) : (s.deliver t).workCount = s.workCount := rfl
@[simp] theorem deliver_capShI (t : BusTxn) (s : State) : (s.deliver t).capShI = s.capShI := rfl
@[simp] theorem deliver_capShQ (t : BusTxn) (s : State) : (s.deliver t).capShQ = s.capShQ := rfl
@[simp] theorem deliver_status (t : BusTxn) (s : State) : (s.deliver t).status = s.status := rfl
@[simp] theorem deliver_freqOffset (t : BusTxn) (s : State) : (s.deliver t).freqOffset = s.freqOffset := rfl
@[simp] theorem deliver_freqWord (t : BusTxn) (s : State) : (s.deliver t).freqWord = s.freqWord := rfl
@[simp] theorem deliver_mode (t : BusTxn) (s : State) : (s.deliver t).mode = s.mode := rfl
@[simp] theorem deliver_bandwidth (t : BusTxn) (s : State) : (s.deliver t).bandwidth = s.bandwidth := rfl
@[simp] theorem deliver_agcSpeed (t : BusTxn) (s : State) : (s.deliver t).agcSpeed = s.agcSpeed := rfl
@[simp] theorem deliver_cwSidetone (t : BusTxn) (s : State) : (s.deliver t).cwSidetone = s.cwSidetone := rfl
@[simp] theorem deliver_sidetoneInc (t : BusTxn) (s : State) : (s.deliver t).sidetoneInc = s.sidetoneInc := rfl
@[simp] theorem deliver_gainCal (t : BusTxn) (s : State) : (s.deliver t).gainCal = s.gainCal := rfl
@[simp] theorem deliver_volume (t : BusTxn) (s : State) : (s.deliver t).volume = s.volume := rfl
@[simp] theorem deliver_squelch (t : BusTxn) (s : State) : (s.deliver t).squelch = s.squelch := rfl
@[simp] theorem deliver_iqSwap (t : BusTxn) (s : State) : (s.deliver t).iqSwap = s.iqSwap := rfl
@[simp] theorem deliver_pwmMax (t : BusTxn) (s : State) : (s.deliver t).pwmMax = s.pwmMax := rfl
@[simp] theorem deliver_signalStrength (t : BusTxn) (s : State) : (s.deliver t).signalStrength = s.signalStrength := rfl
@[simp] theorem deliver_outCount (t : BusTxn) (s : State) : (s.deliver t).outCount = s.outCount := rfl
@[simp] theorem deliver_capSeq (t : BusTxn) (s : State) : (s.deliver t).capSeq = s.capSeq := rfl
@[simp] theorem deliver_blkSeq (t : BusTxn) (s : State) : (s.deliver t).blkSeq = s.blkSeq := rfl
@[simp] theorem deliver_capI (t : BusTxn) (s : State) : (s.deliver t).capI = s.capI := rfl
@[simp] theorem deliver_capQ (t : BusTxn) (s : State) : (s.deliver t).capQ = s.capQ := rfl
@[simp] theorem deliver_audioOut (t : BusTxn) (s : State) : (s.deliver t).audioOut = s.audioOut := rfl
@[simp] theorem deliver_perfDraws (t : BusTxn) (s : State) : (s.deliver t).perfDraws = s.perfDraws := rfl
@[simp] theorem deliver_rdata (t : BusTxn) (s : State) : (s.deliver t).rdata = s.rdata := rfl
@[simp] theorem deliver_bus (t : BusTxn) (s : State) : (s.deliver t).bus = s.bus ++ [t] := rfl

@[simp] theorem putTxn_ncoPhase (t : BusTxn) (s : State) : (s.putTxn t).ncoPhase = s.ncoPhase := rfl
@[simp] theorem putTxn_cicMain (t : BusTxn) (s : State) : (s.putTxn t).cicMain = s.cicMain := rfl
@[simp] theorem putTxn_cicCw (t : BusTxn) (s : State) : (s.putTxn t).cicCw = s.cicCw := rfl
@[simp] theorem putTxn_hb1Main (t : BusTxn) (s : State) : (s.putTxn t).hb1Main = s.hb1Main := rfl
@[simp] theorem putTxn_hb2Main (t : BusTxn) (s : State) : (s.putTxn t).hb2Main = s.hb2Main := rfl
@[simp] theorem putTxn_hb1Cw (t : BusTxn) (s : State) : (s.putTxn t).hb1Cw = s.hb1Cw := rfl
@[simp] theorem putTxn_hb2Cw (t : BusTxn) (s : State) : (s.putTxn t).hb2Cw = s.hb2Cw := rfl
@[simp] theorem putTxn_amAcc (t : BusTxn) (s : State) : (s.putTxn t).amAcc = s.amAcc := rfl
@[simp] theorem putTxn_fmLast (t : BusTxn) (s : State) : (s.putTxn t).fmLast = s.fmLast := rfl
@[simp] theorem putTxn_ssbIdx (t : BusTxn) (s : State) : (s.putTxn t).ssbIdx = s.ssbIdx := rfl
@[simp] theorem putTxn_ssbFilt (t : BusTxn) (s : State) : (s.putTxn t).ssbFilt = s.ssbFilt := rfl
@[simp] theorem putTxn_cwMag (t : BusTxn) (s : State) : (s.putTxn t).cwMag = s.cwMag := rfl
@[simp] theorem putTxn_stPhase (t : BusTxn) (s : State) : (s.putTxn t).stPhase = s.stPhase := rfl
@[simp] theorem putTxn_agcMaxHold (t : BusTxn) (s : State) : (s.putTxn t).agcMaxHold = s.agcMaxHold := rfl
@[simp] theorem putTxn_agcHang (t : BusTxn) (s : State) : (s.putTxn t).agcHang = s.agcHang := rfl
@[simp] theorem putTxn_blkN (t : BusTxn) (s : State) : (s.putTxn t).blkN = s.blkN := rfl
@[simp] theorem putTxn_magSum (t : BusTxn) (s : State) : (s.putTxn t).magSum = s.magSum := rfl
@[simp] theorem putTxn_workBuf (t : BusTxn) (s : State) : (s.putTxn t).workBuf = s.workBuf := rfl
@[simp] theorem putTxn_workCount (t : BusTxn) (s : State) : (s.putTxn t).workCount = s.workCount := rfl
@[simp] theorem putTxn_capShI (t : BusTxn) (s : State) : (s.putTxn t).capShI = s.capShI := rfl
@[simp] theorem putTxn_capShQ (t : BusTxn) (s : State) : (s.putTxn t).capShQ = s.capShQ := rfl
@[simp] theorem putTxn_status (t : BusTxn) (s : State) : (s.putTxn t).status = s.status := rfl
@[simp] theorem putTxn_freqOffset (t : BusTxn) (s : State) : (s.putTxn t).freqOffset = s.freqOffset := rfl
@[simp] theorem putTxn_freqWord (t : BusTxn) (s : State) : (s.putTxn t).freqWord = s.freqWord := rfl
@[simp] theorem putTxn_mode (t : BusTxn) (s : State) : (s.putTxn t).mode = s.mode := rfl
@[simp] theorem putTxn_bandwidth (t : BusTxn) (s : State) : (s.putTxn t).bandwidth = s.bandwidth := rfl
@[simp] theorem putTxn_agcSpeed (t : BusTxn) (s : State) : (s.putTxn t).agcSpeed = s.agcSpeed := rfl
@[simp] theorem putTxn_cwSidetone (t : BusTxn) (s : State) : (s.putTxn t).cwSidetone = s.cwSidetone := rfl
@[simp] theorem putTxn_sidetoneInc (t : BusTxn) (s : State) : (s.putTxn t).sidetoneInc = s.sidetoneInc := rfl
@[simp] theorem putTxn_gainCal (t : BusTxn) (s : State) : (s.putTxn t).gainCal = s.gainCal := rfl
@[simp] theorem putTxn_volume (t : BusTxn) (s : State) : (s.putTxn t).volume = s.volume := rfl
@[simp] theorem putTxn_squelch (t : BusTxn) (s : State) : (s.putTxn t).squelch = s.squelch := rfl
@[simp] theorem putTxn_iqSwap (t : BusTxn) (s : State) : (s.putTxn t).iqSwap = s.iqSwap := rfl
@[simp] theorem putTxn_pwmMax (t : BusTxn) (s : State) : (s.putTxn t).pwmMax = s.pwmMax := rfl
@[simp] theorem putTxn_signalStrength (t : BusTxn) (s : State) : (s.putTxn t).signalStrength = s.signalStrength := rfl
@[simp] theorem putTxn_outCount (t : BusTxn) (s : State) : (s.putTxn t).outCount = s.outCount := rfl
@[simp] theorem putTxn_capSeq (t : BusTxn) (s : State) : (s.putTxn t).capSeq = s.capSeq := rfl
@[simp] theorem putTxn_blkSeq (t : BusTxn) (s : State) : (s.putTxn t).blkSeq = s.blkSeq := rfl
@[simp] theorem putTxn_capI (t : BusTxn) (s : State) : (s.putTxn t).capI = s.capI := rfl
@[simp] theorem putTxn_capQ (t : BusTxn) (s : State) : (s.putTxn t).capQ = s.capQ := rfl
@[simp] theorem putTxn_audioOut (t : BusTxn) (s : State) : (s.putTxn t).audioOut = s.audioOut := rfl
@[simp] theorem putTxn_perfDraws (t : BusTxn) (s : State) : (s.putTxn t).perfDraws = s.perfDraws := rfl
@[simp] theorem putTxn_rdata (t : BusTxn) (s : State) : (s.putTxn t).rdata = s.rdata := rfl
@[simp] theorem putTxn_bus (t : BusTxn) (s : State) : (s.putTxn t).bus = t :: s.bus := rfl

/-- Setting a flag under a condition, as one record update. -/
theorem setFlagIf_eq (b : Bool) (f : BitVec 6) (s : State) :
    s.setFlagIf b f = { s with status := if b then s.status ||| f else s.status } := by
  cases b <;> rfl

@[simp] theorem setFlagIf_ncoPhase (b : Bool) (f : BitVec 6) (s : State) : (s.setFlagIf b f).ncoPhase = s.ncoPhase := by
  rw [setFlagIf_eq]
@[simp] theorem setFlagIf_cicMain (b : Bool) (f : BitVec 6) (s : State) : (s.setFlagIf b f).cicMain = s.cicMain := by
  rw [setFlagIf_eq]
@[simp] theorem setFlagIf_cicCw (b : Bool) (f : BitVec 6) (s : State) : (s.setFlagIf b f).cicCw = s.cicCw := by
  rw [setFlagIf_eq]
@[simp] theorem setFlagIf_hb1Main (b : Bool) (f : BitVec 6) (s : State) : (s.setFlagIf b f).hb1Main = s.hb1Main := by
  rw [setFlagIf_eq]
@[simp] theorem setFlagIf_hb2Main (b : Bool) (f : BitVec 6) (s : State) : (s.setFlagIf b f).hb2Main = s.hb2Main := by
  rw [setFlagIf_eq]
@[simp] theorem setFlagIf_hb1Cw (b : Bool) (f : BitVec 6) (s : State) : (s.setFlagIf b f).hb1Cw = s.hb1Cw := by
  rw [setFlagIf_eq]
@[simp] theorem setFlagIf_hb2Cw (b : Bool) (f : BitVec 6) (s : State) : (s.setFlagIf b f).hb2Cw = s.hb2Cw := by
  rw [setFlagIf_eq]
@[simp] theorem setFlagIf_amAcc (b : Bool) (f : BitVec 6) (s : State) : (s.setFlagIf b f).amAcc = s.amAcc := by
  rw [setFlagIf_eq]
@[simp] theorem setFlagIf_fmLast (b : Bool) (f : BitVec 6) (s : State) : (s.setFlagIf b f).fmLast = s.fmLast := by
  rw [setFlagIf_eq]
@[simp] theorem setFlagIf_ssbIdx (b : Bool) (f : BitVec 6) (s : State) : (s.setFlagIf b f).ssbIdx = s.ssbIdx := by
  rw [setFlagIf_eq]
@[simp] theorem setFlagIf_ssbFilt (b : Bool) (f : BitVec 6) (s : State) : (s.setFlagIf b f).ssbFilt = s.ssbFilt := by
  rw [setFlagIf_eq]
@[simp] theorem setFlagIf_cwMag (b : Bool) (f : BitVec 6) (s : State) : (s.setFlagIf b f).cwMag = s.cwMag := by
  rw [setFlagIf_eq]
@[simp] theorem setFlagIf_stPhase (b : Bool) (f : BitVec 6) (s : State) : (s.setFlagIf b f).stPhase = s.stPhase := by
  rw [setFlagIf_eq]
@[simp] theorem setFlagIf_agcMaxHold (b : Bool) (f : BitVec 6) (s : State) : (s.setFlagIf b f).agcMaxHold = s.agcMaxHold := by
  rw [setFlagIf_eq]
@[simp] theorem setFlagIf_agcHang (b : Bool) (f : BitVec 6) (s : State) : (s.setFlagIf b f).agcHang = s.agcHang := by
  rw [setFlagIf_eq]
@[simp] theorem setFlagIf_blkN (b : Bool) (f : BitVec 6) (s : State) : (s.setFlagIf b f).blkN = s.blkN := by
  rw [setFlagIf_eq]
@[simp] theorem setFlagIf_magSum (b : Bool) (f : BitVec 6) (s : State) : (s.setFlagIf b f).magSum = s.magSum := by
  rw [setFlagIf_eq]
@[simp] theorem setFlagIf_workBuf (b : Bool) (f : BitVec 6) (s : State) : (s.setFlagIf b f).workBuf = s.workBuf := by
  rw [setFlagIf_eq]
@[simp] theorem setFlagIf_workCount (b : Bool) (f : BitVec 6) (s : State) : (s.setFlagIf b f).workCount = s.workCount := by
  rw [setFlagIf_eq]
@[simp] theorem setFlagIf_capShI (b : Bool) (f : BitVec 6) (s : State) : (s.setFlagIf b f).capShI = s.capShI := by
  rw [setFlagIf_eq]
@[simp] theorem setFlagIf_capShQ (b : Bool) (f : BitVec 6) (s : State) : (s.setFlagIf b f).capShQ = s.capShQ := by
  rw [setFlagIf_eq]
@[simp] theorem setFlagIf_status (b : Bool) (f : BitVec 6) (s : State) : (s.setFlagIf b f).status = if b then s.status ||| f else s.status := by
  rw [setFlagIf_eq]
@[simp] theorem setFlagIf_freqOffset (b : Bool) (f : BitVec 6) (s : State) : (s.setFlagIf b f).freqOffset = s.freqOffset := by
  rw [setFlagIf_eq]
@[simp] theorem setFlagIf_freqWord (b : Bool) (f : BitVec 6) (s : State) : (s.setFlagIf b f).freqWord = s.freqWord := by
  rw [setFlagIf_eq]
@[simp] theorem setFlagIf_mode (b : Bool) (f : BitVec 6) (s : State) : (s.setFlagIf b f).mode = s.mode := by
  rw [setFlagIf_eq]
@[simp] theorem setFlagIf_bandwidth (b : Bool) (f : BitVec 6) (s : State) : (s.setFlagIf b f).bandwidth = s.bandwidth := by
  rw [setFlagIf_eq]
@[simp] theorem setFlagIf_agcSpeed (b : Bool) (f : BitVec 6) (s : State) : (s.setFlagIf b f).agcSpeed = s.agcSpeed := by
  rw [setFlagIf_eq]
@[simp] theorem setFlagIf_cwSidetone (b : Bool) (f : BitVec 6) (s : State) : (s.setFlagIf b f).cwSidetone = s.cwSidetone := by
  rw [setFlagIf_eq]
@[simp] theorem setFlagIf_sidetoneInc (b : Bool) (f : BitVec 6) (s : State) : (s.setFlagIf b f).sidetoneInc = s.sidetoneInc := by
  rw [setFlagIf_eq]
@[simp] theorem setFlagIf_gainCal (b : Bool) (f : BitVec 6) (s : State) : (s.setFlagIf b f).gainCal = s.gainCal := by
  rw [setFlagIf_eq]
@[simp] theorem setFlagIf_volume (b : Bool) (f : BitVec 6) (s : State) : (s.setFlagIf b f).volume = s.volume := by
  rw [setFlagIf_eq]
@[simp] theorem setFlagIf_squelch (b : Bool) (f : BitVec 6) (s : State) : (s.setFlagIf b f).squelch = s.squelch := by
  rw [setFlagIf_eq]
@[simp] theorem setFlagIf_iqSwap (b : Bool) (f : BitVec 6) (s : State) : (s.setFlagIf b f).iqSwap = s.iqSwap := by
  rw [setFlagIf_eq]
@[simp] theorem setFlagIf_pwmMax (b : Bool) (f : BitVec 6) (s : State) : (s.setFlagIf b f).pwmMax = s.pwmMax := by
  rw [setFlagIf_eq]
@[simp] theorem setFlagIf_signalStrength (b : Bool) (f : BitVec 6) (s : State) : (s.setFlagIf b f).signalStrength = s.signalStrength := by
  rw [setFlagIf_eq]
@[simp] theorem setFlagIf_outCount (b : Bool) (f : BitVec 6) (s : State) : (s.setFlagIf b f).outCount = s.outCount := by
  rw [setFlagIf_eq]
@[simp] theorem setFlagIf_capSeq (b : Bool) (f : BitVec 6) (s : State) : (s.setFlagIf b f).capSeq = s.capSeq := by
  rw [setFlagIf_eq]
@[simp] theorem setFlagIf_blkSeq (b : Bool) (f : BitVec 6) (s : State) : (s.setFlagIf b f).blkSeq = s.blkSeq := by
  rw [setFlagIf_eq]
@[simp] theorem setFlagIf_capI (b : Bool) (f : BitVec 6) (s : State) : (s.setFlagIf b f).capI = s.capI := by
  rw [setFlagIf_eq]
@[simp] theorem setFlagIf_capQ (b : Bool) (f : BitVec 6) (s : State) : (s.setFlagIf b f).capQ = s.capQ := by
  rw [setFlagIf_eq]
@[simp] theorem setFlagIf_audioOut (b : Bool) (f : BitVec 6) (s : State) : (s.setFlagIf b f).audioOut = s.audioOut := by
  rw [setFlagIf_eq]
@[simp] theorem setFlagIf_perfDraws (b : Bool) (f : BitVec 6) (s : State) : (s.setFlagIf b f).perfDraws = s.perfDraws := by
  rw [setFlagIf_eq]
@[simp] theorem setFlagIf_rdata (b : Bool) (f : BitVec 6) (s : State) : (s.setFlagIf b f).rdata = s.rdata := by
  rw [setFlagIf_eq]
@[simp] theorem setFlagIf_bus (b : Bool) (f : BitVec 6) (s : State) : (s.setFlagIf b f).bus = s.bus := by
  rw [setFlagIf_eq]

end Sys2Proof.Machine
end

