-- ==== Sys2Proof/Laws/Operations.lean ====
section
/-!
SUPPORT. One lemma per shared operation that says once what it can do: BusError, the queue, the CIC call, the cascades, the
demodulator, the AGC, EMIT, the capture, the block end and the stages of a final-ready sample.
-/
namespace Sys2Proof.Machine

/-- BusError as one record update (R147). -/
theorem busError_eq (h : Word) (s : State) :
    busError h s = { s with status := s.status ||| flagBusErr, rdata := if headerW h then none else some 0 } := by
  unfold busError
  split <;> simp [State.setFlag, State.noResponse, State.respond]

/-- Taking a transaction takes the head of the queue and nothing else. -/
theorem takeTxn_some (s s1 : State) (t : BusTxn) :
    s.takeTxn = some (t, s1) ↔ ∃ rest, s.bus = t :: rest ∧ s1 = { s with bus := rest } := by
  unfold State.takeTxn
  cases s.bus <;> simp [eq_comm]

/-- What one CIC call can do: no output and the counter moved on, or an output and the counter at 0 (R280, R282, R285). -/
theorem cicStep_cases (w r sh : Nat) (x : Pair) (C : Cic) :
    (C.cnt + 1 < r ∧ cicStep w r sh x C =
      ⟨⟨integrate w x.i C.laneI, integrate w x.q C.laneQ, C.cnt + 1⟩, none, false⟩) ∨
    (r ≤ C.cnt + 1 ∧ ∃ y b, cicStep w r sh x C =
      ⟨⟨(comb w (integrate w x.i C.laneI)).2, (comb w (integrate w x.q C.laneQ)).2, 0⟩, some y, b⟩) := by
  unfold cicStep
  by_cases h : C.cnt + 1 < r
  · exact .inl ⟨h, by simp [h]⟩
  · refine .inr ⟨by omega, ⟨(cicOut sh (comb w (integrate w x.i C.laneI)).1).1,
      (cicOut sh (comb w (integrate w x.q C.laneQ)).1).1⟩, (cicOut sh (comb w (integrate w x.i C.laneI)).1).2 ||
      (cicOut sh (comb w (integrate w x.q C.laneQ)).1).2, ?_⟩
    simp only [h, if_false]

/-- The cascade leaves the CIC as CIC_STEP gives it (R313, R314). -/
theorem halfbands_cic (c : Config) (bw : Word) (r : CicResult) (h1 h2 : Nat) :
    (halfbands c bw r h1 h2).cic = r.cic := by
  unfold halfbands
  repeat' split
  all_goals rfl

/-- Without a CIC sample no half-band filter is called (R315). -/
theorem halfbands_none (c : Config) (bw : Word) (C : Cic) (b : Bool) (h1 h2 : Nat) :
    halfbands c bw ⟨C, none, b⟩ h1 h2 = ⟨C, h1, h2, none, b⟩ := rfl

/-- The machine's own half-band filters on a CIC sample: HB1's phase flips, and a sample comes out exactly when its phase was
odd (R311, R312, R313). -/
theorem halfbands_chip (bw : Word) (C : Cic) (y : Pair) (b : Bool) (h1 h2 : Nat) :
    (halfbands Config.chip bw ⟨C, some y, b⟩ h1 h2).hb1 % 2 = 1 - h1 % 2 ∧
    ((halfbands Config.chip bw ⟨C, some y, b⟩ h1 h2).out.isSome = true ↔ h1 % 2 = 1) := by
  rcases Nat.mod_two_eq_zero_or_one h1 with h | h <;>
    simp [halfbands, Config.chip, chipHb1, chipHb2, h]

/-- The main cascade as one record update (R313). -/
theorem mainCascade_eq (c : Config) (x : Pair) (s : State) : mainCascade c x s =
    ((mainCall c x s).out,
      { s with
        cicMain := (mainCall c x s).cic
        hb1Main := (mainCall c x s).hb1
        hb2Main := (mainCall c x s).hb2
        status := if (mainCall c x s).sat then s.status ||| flagCicSat else s.status }) := by
  simp only [mainCascade, setFlagIf_eq]

/-- The main cascade only sets flags (R52). -/
theorem mainCascade_status (c : Config) (x : Pair) (s : State) :
    ∃ f, (mainCascade c x s).2.status = s.status ||| f := by
  refine ⟨if (mainCall c x s).sat then flagCicSat else 0, ?_⟩
  rw [mainCascade_eq]
  dsimp only
  split <;> simp

/-- The CW cascade as one record update (R314). -/
theorem cwCascade_eq (c : Config) (x : Pair) (s : State) : cwCascade c x s =
    ((cwCall c x s).out,
      { s with
        cicCw := (cwCall c x s).cic
        hb1Cw := (cwCall c x s).hb1
        hb2Cw := (cwCall c x s).hb2
        status := if (cwCall c x s).sat then s.status ||| flagCwCicSat else s.status }) := by
  simp only [cwCascade, setFlagIf_eq]

/-- The magnitude register after a CW call (R341). -/
theorem cwMagnitude_eq (c : Config) (r : Option Pair) (s : State) : cwMagnitude c r s =
    { s with cwMag := match r with | none => s.cwMag | some y => c.mag y.i y.q } := by
  cases r <;> rfl

/-- DEMOD_CW as one record update (R343). -/
theorem demodCw_eq (c : Config) (x : Pair) (s : State) : (demodCw c x s).2 =
    { s with
      cicCw := (cwCall c x s).cic
      hb1Cw := (cwCall c x s).hb1
      hb2Cw := (cwCall c x s).hb2
      status := if (cwCall c x s).sat then s.status ||| flagCwCicSat else s.status
      cwMag := match (cwCall c x s).out with | none => s.cwMag | some y => c.mag y.i y.q
      stPhase := reg32 c.wPhase (s.stPhase.toNat + s.sidetoneInc.toNat) } := by
  simp only [demodCw, cwTone, cwCascade_eq, cwMagnitude_eq]

/-- The rule a demodulator call runs (R330). -/
theorem demod_cases (c : Config) (x : Pair) (s : State) :
    (s.mode = .am ∧ demod c x s = demodAm c x s) ∨ (s.mode = .fm ∧ demod c x s = demodFm c x s) ∨
    (s.mode = .usb ∧ demod c x s = demodSsb c 1 x s) ∨ (s.mode = .lsb ∧ demod c x s = demodSsb c (-1) x s) ∨
    (s.mode = .cw ∧ demod c x s = demodCw c x s) := by
  unfold demod demodUsb demodLsb
  cases s.mode <;> simp

/-- A demodulator call changes nothing but the groups of the modes and, in CW, the status (R346). -/
theorem demod_frame (c : Config) (x : Pair) (s : State) : (demod c x s).2 =
    { s with
      amAcc := (demod c x s).2.amAcc
      fmLast := (demod c x s).2.fmLast
      ssbIdx := (demod c x s).2.ssbIdx
      ssbFilt := (demod c x s).2.ssbFilt
      cicCw := (demod c x s).2.cicCw
      hb1Cw := (demod c x s).2.hb1Cw
      hb2Cw := (demod c x s).2.hb2Cw
      cwMag := (demod c x s).2.cwMag
      stPhase := (demod c x s).2.stPhase
      status := (demod c x s).2.status } := by
  rcases demod_cases c x s with ⟨_, h⟩ | ⟨_, h⟩ | ⟨_, h⟩ | ⟨_, h⟩ | ⟨_, h⟩ <;> rw [h]
  case inr.inr.inr.inr => rw [demodCw_eq]
  all_goals rfl

/-- A demodulator call only sets flags (R52). -/
theorem demod_status (c : Config) (x : Pair) (s : State) : ∃ f, (demod c x s).2.status = s.status ||| f := by
  rcases demod_cases c x s with ⟨_, h⟩ | ⟨_, h⟩ | ⟨_, h⟩ | ⟨_, h⟩ | ⟨_, h⟩ <;> rw [h]
  case inr.inr.inr.inr =>
    refine ⟨if (cwCall c x s).sat then flagCwCicSat else 0, ?_⟩
    rw [demodCw_eq]
    dsimp only
    split <;> simp
  all_goals exact ⟨0#6, by rw [BitVec.or_zero]; rfl⟩

/-- One copy of EMIT changes the working buffer, its count or the status (R211). -/
theorem emitOne_cases (c : Config) (p : BitVec 16) (s : State) :
    (s.workCount < c.outCap ∧
      emitOne c p s = { s with workBuf := s.workBuf.set s.workCount p, workCount := s.workCount + 1 }) ∨
    (c.outCap ≤ s.workCount ∧ emitOne c p s = { s with status := s.status ||| flagOutOvf }) := by
  unfold emitOne
  split
  · exact .inl ⟨‹_›, rfl⟩
  · exact .inr ⟨by omega, rfl⟩

/-- EMIT changes the working buffer, its count and the status and nothing else (R211). -/
theorem emit_frame (c : Config) (p : BitVec 16) (n : Nat) (s : State) : emit c p n s =
    { s with
      workBuf := (emit c p n s).workBuf
      workCount := (emit c p n s).workCount
      status := (emit c p n s).status } := by
  induction n generalizing s with
  | zero => rfl
  | succ n ih =>
    rcases emitOne_cases c p s with ⟨_, h1⟩ | ⟨_, h1⟩ <;> simp only [emit, h1] <;> exact ih _

/-- EMIT only sets flags (R52). -/
theorem emit_status (c : Config) (p : BitVec 16) (n : Nat) (s : State) :
    ∃ f, (emit c p n s).status = s.status ||| f := by
  induction n generalizing s with
  | zero => exact ⟨0, by simp [emit]⟩
  | succ n ih =>
    obtain ⟨f, h⟩ := ih (emitOne c p s)
    rcases emitOne_cases c p s with ⟨_, h1⟩ | ⟨_, h1⟩
    · exact ⟨f, by rw [emit, h, h1]⟩
    · exact ⟨flagOutOvf ||| f, by rw [emit, h, h1]; simp [BitVec.or_assoc]⟩

/-- The working count after EMIT: INTERP more, at most OUT_CAP (R211). -/
theorem emit_workCount (c : Config) (p : BitVec 16) (n : Nat) (s : State) (h : s.workCount ≤ c.outCap) :
    (emit c p n s).workCount = min (s.workCount + n) c.outCap := by
  induction n generalizing s with
  | zero => simp [emit]; omega
  | succ n ih =>
    rcases emitOne_cases c p s with ⟨h0, h1⟩ | ⟨h0, h1⟩ <;> rw [emit, ih] <;> simp [h1] <;> omega

/-- EMIT keeps the length of the working buffer. -/
theorem emit_length (c : Config) (p : BitVec 16) (n : Nat) (s : State) :
    (emit c p n s).workBuf.length = s.workBuf.length := by
  induction n generalizing s with
  | zero => rfl
  | succ n ih => rcases emitOne_cases c p s with ⟨_, h1⟩ | ⟨_, h1⟩ <;> simp [emit, ih, h1]

/-- EMIT below the capacity drops no copy (R211). -/
theorem emit_noDrop (c : Config) (p : BitVec 16) (n : Nat) (s : State) (h : s.workCount + n ≤ c.outCap) :
    (emit c p n s).status = s.status := by
  induction n generalizing s with
  | zero => rfl
  | succ n ih =>
    rcases emitOne_cases c p s with ⟨_, h1⟩ | ⟨h0, _⟩
    · rw [emit, ih] <;> simp [h1]
      omega
    · omega

/-- The AGC changes its detector and nothing else (R380). -/
theorem agc_eq (c : Config) (x : Sample) (s : State) : (agc c x s).2 =
    { s with
      agcMaxHold := (agcDetect c (agcPreset c s.agcSpeed) x ⟨s.agcMaxHold, s.agcHang⟩).hold
      agcHang := (agcDetect c (agcPreset c s.agcSpeed) x ⟨s.agcMaxHold, s.agcHang⟩).hang } := rfl

/-- The capture write as one record update (R204). -/
theorem captureWrite_eq (c : Config) (x : Pair) (s : State) : captureWrite c x s =
    { s with
      capShI := if s.blkN < c.capLen then s.capShI.set s.blkN (captureEntry c x.i) else s.capShI
      capShQ := if s.blkN < c.capLen then s.capShQ.set s.blkN (captureEntry c x.q) else s.capShQ } := by
  unfold captureWrite
  split <;> rfl

/-- The publication as one record update (R205). -/
theorem capturePublish_eq (c : Config) (s : State) : capturePublish c s =
    { s with
      capI := if s.blkN + 1 = c.capLen then s.capShI else s.capI
      capQ := if s.blkN + 1 = c.capLen then s.capShQ else s.capQ
      capSeq := if s.blkN + 1 = c.capLen then s.capSeq + 1 else s.capSeq
      status := if s.blkN + 1 = c.capLen then s.status ||| flagCapReady else s.status } := by
  unfold capturePublish
  split <;> rfl

/-- The block end as one record update (R213 to R215). -/
theorem blockEnd_eq (c : Config) (s : State) : blockEnd c s =
    { s with
      signalStrength := BitVec.ofNat 32 (min (s.magSum.toNat * c.rTotal / c.nBlock) (2 ^ 32 - 1))
      audioOut := s.workBuf.take s.workCount ++ List.replicate (c.outCap - s.workCount) 0
      outCount := BitVec.ofNat 11 s.workCount
      blkSeq := s.blkSeq + 1
      magSum := 0
      workCount := 0
      blkN := 0
      status := s.status ||| flagBlockDone } := rfl

/-- The front end as one record update: capture, publication, phase advance (R204 to R206, R254). -/
theorem frontEnd_eq (c : Config) (x : Pair) (s : State) : frontEnd c x s =
    { capturePublish c (captureWrite c x s) with
      ncoPhase := reg32 c.wPhase (s.ncoPhase.toNat + s.freqWord.toNat) } := by
  simp only [frontEnd, ncoAdvance, capturePublish_eq, captureWrite_eq]

/-- The only flag the front end can set is that of the publication (R205). -/
theorem frontEnd_status (c : Config) (x : Pair) (s : State) :
    (frontEnd c x s).status = (capturePublish c s).status := by
  simp only [frontEnd_eq, capturePublish_eq, captureWrite_eq]

/-- The audio stages change the AGC's detector, the working buffer, its count and the status (R209 to R211). -/
theorem audioStages_frame (c : Config) (a : Sample) (s : State) : audioStages c a s =
    { s with
      agcMaxHold := (agc c a s).2.agcMaxHold
      agcHang := (agc c a s).2.agcHang
      workBuf := (audioStages c a s).workBuf
      workCount := (audioStages c a s).workCount
      status := (audioStages c a s).status } := by
  unfold audioStages
  dsimp only
  rw [emit_frame]
  rfl

/-- What a final-ready sample can change (R207 to R211). -/
theorem finalReady_frame (c : Config) (x : Pair) (s : State) : finalReady c x s =
    { s with
      magSum := s.magSum + (c.mag x.i x.q).setWidth 64
      amAcc := (finalReady c x s).amAcc
      fmLast := (finalReady c x s).fmLast
      ssbIdx := (finalReady c x s).ssbIdx
      ssbFilt := (finalReady c x s).ssbFilt
      cicCw := (finalReady c x s).cicCw
      hb1Cw := (finalReady c x s).hb1Cw
      hb2Cw := (finalReady c x s).hb2Cw
      cwMag := (finalReady c x s).cwMag
      stPhase := (finalReady c x s).stPhase
      agcMaxHold := (finalReady c x s).agcMaxHold
      agcHang := (finalReady c x s).agcHang
      workBuf := (finalReady c x s).workBuf
      workCount := (finalReady c x s).workCount
      status := (finalReady c x s).status } := by
  have hd := demod_frame c x (ssAccumulate c x s)
  unfold finalReady
  rcases h : demod c x (ssAccumulate c x s) with ⟨_ | a, s1⟩
  · rw [h] at hd
    dsimp only at hd ⊢
    rw [hd]
    rfl
  · rw [h] at hd
    dsimp only at hd ⊢
    rw [audioStages_frame, hd]
    rfl

/-- A final-ready sample only sets flags (R52). -/
theorem finalReady_status (c : Config) (x : Pair) (s : State) : ∃ f, (finalReady c x s).status = s.status ||| f := by
  obtain ⟨f, hf⟩ := demod_status c x (ssAccumulate c x s)
  unfold finalReady
  rcases h : demod c x (ssAccumulate c x s) with ⟨_ | a, s1⟩ <;> rw [h] at hf
  · exact ⟨f, hf⟩
  · obtain ⟨g, hg⟩ := emit_status c (pwmScale (c.postAgc (agc c a s1).1 s1.volume s1.squelch) s1.pwmMax) c.interp
      (agc c a s1).2
    refine ⟨f ||| g, ?_⟩
    dsimp only [audioStages] at hf ⊢
    rw [hg, agc_eq]
    dsimp only
    rw [hf, BitVec.or_assoc]
    rfl

/-- What follows the cascade can change no more than a final-ready sample can (R207). -/
theorem afterCascade_frame (c : Config) (r : Option Pair) (s : State) : afterCascade c r s =
    { s with
      magSum := match r with | none => s.magSum | some x => s.magSum + (c.mag x.i x.q).setWidth 64
      amAcc := (afterCascade c r s).amAcc
      fmLast := (afterCascade c r s).fmLast
      ssbIdx := (afterCascade c r s).ssbIdx
      ssbFilt := (afterCascade c r s).ssbFilt
      cicCw := (afterCascade c r s).cicCw
      hb1Cw := (afterCascade c r s).hb1Cw
      hb2Cw := (afterCascade c r s).hb2Cw
      cwMag := (afterCascade c r s).cwMag
      stPhase := (afterCascade c r s).stPhase
      agcMaxHold := (afterCascade c r s).agcMaxHold
      agcHang := (afterCascade c r s).agcHang
      workBuf := (afterCascade c r s).workBuf
      workCount := (afterCascade c r s).workCount
      status := (afterCascade c r s).status } := by
  cases r with
  | none => rfl
  | some x => exact finalReady_frame c x s

/-- What follows the cascade only sets flags (R52). -/
theorem afterCascade_status (c : Config) (r : Option Pair) (s : State) :
    ∃ f, (afterCascade c r s).status = s.status ||| f := by
  cases r with
  | none => exact ⟨0#6, (BitVec.or_zero).symm⟩
  | some x => exact finalReady_status c x s

/-- The index advance as one record update (R212 to R215). -/
theorem advanceIndex_eq (c : Config) (s : State) : advanceIndex c s =
    { s with
      blkN := if s.blkN + 1 = c.nBlock then 0 else s.blkN + 1
      signalStrength := if s.blkN + 1 = c.nBlock then
        BitVec.ofNat 32 (min (s.magSum.toNat * c.rTotal / c.nBlock) (2 ^ 32 - 1)) else s.signalStrength
      audioOut := if s.blkN + 1 = c.nBlock then
        s.workBuf.take s.workCount ++ List.replicate (c.outCap - s.workCount) 0 else s.audioOut
      outCount := if s.blkN + 1 = c.nBlock then BitVec.ofNat 11 s.workCount else s.outCount
      blkSeq := if s.blkN + 1 = c.nBlock then s.blkSeq + 1 else s.blkSeq
      magSum := if s.blkN + 1 = c.nBlock then 0 else s.magSum
      workCount := if s.blkN + 1 = c.nBlock then 0 else s.workCount
      status := if s.blkN + 1 = c.nBlock then s.status ||| flagBlockDone else s.status } := by
  unfold advanceIndex
  split <;> rfl

/-- The rotated pair an engine step gives the cascade. -/
abbrev mixed (c : Config) (d : BitVec 16) (s : State) : Pair := ncoRotate c s.ncoPhase (inputPair c d s)

/-- The state of an engine step after the cascade and what follows it, before the index advances. -/
abbrev beforeIndex (c : Config) (d : BitVec 16) (s : State) : State :=
  afterCascade c (mainCall c (mixed c d s) s).out
    (mainCascade c (mixed c d s) (frontEnd c (inputPair c d s) s)).2

/-- An engine step is the index advance of that state (R200). -/
theorem engineStep_eq (c : Config) (d : BitVec 16) (s : State) :
    engineStep c d s = advanceIndex c (beforeIndex c d s) := by
  have h : (mainCascade c (mixed c d s) (frontEnd c (inputPair c d s) s)).1 = (mainCall c (mixed c d s) s).out := by
    rw [mainCascade_eq, frontEnd_eq, capturePublish_eq, captureWrite_eq]
    rfl
  simp only [engineStep, beforeIndex, ← h]

/-- What an engine step can have changed before its index advances (R200): the rest of the state is as it was. -/
theorem beforeIndex_frame (c : Config) (d : BitVec 16) (s : State) : beforeIndex c d s =
    { s with
      ncoPhase := reg32 c.wPhase (s.ncoPhase.toNat + s.freqWord.toNat)
      cicMain := (mainCall c (mixed c d s) s).cic
      hb1Main := (mainCall c (mixed c d s) s).hb1
      hb2Main := (mainCall c (mixed c d s) s).hb2
      capShI := (captureWrite c (inputPair c d s) s).capShI
      capShQ := (captureWrite c (inputPair c d s) s).capShQ
      capI := (capturePublish c (captureWrite c (inputPair c d s) s)).capI
      capQ := (capturePublish c (captureWrite c (inputPair c d s) s)).capQ
      capSeq := (capturePublish c s).capSeq
      magSum := match (mainCall c (mixed c d s) s).out with
        | none => s.magSum
        | some x => s.magSum + (c.mag x.i x.q).setWidth 64
      amAcc := (beforeIndex c d s).amAcc
      fmLast := (beforeIndex c d s).fmLast
      ssbIdx := (beforeIndex c d s).ssbIdx
      ssbFilt := (beforeIndex c d s).ssbFilt
      cicCw := (beforeIndex c d s).cicCw
      hb1Cw := (beforeIndex c d s).hb1Cw
      hb2Cw := (beforeIndex c d s).hb2Cw
      cwMag := (beforeIndex c d s).cwMag
      stPhase := (beforeIndex c d s).stPhase
      agcMaxHold := (beforeIndex c d s).agcMaxHold
      agcHang := (beforeIndex c d s).agcHang
      workBuf := (beforeIndex c d s).workBuf
      workCount := (beforeIndex c d s).workCount
      status := (beforeIndex c d s).status } := by
  rw [beforeIndex, afterCascade_frame]
  simp only [mainCascade_eq, frontEnd_eq, capturePublish_eq, captureWrite_eq]
  rfl

/-- After the capture an engine step only sets flags until its index advances (R52, R205). -/
theorem beforeIndex_status (c : Config) (d : BitVec 16) (s : State) :
    ∃ f, (beforeIndex c d s).status = (capturePublish c s).status ||| f := by
  obtain ⟨f, hf⟩ := mainCascade_status c (mixed c d s) (frontEnd c (inputPair c d s) s)
  obtain ⟨g, hg⟩ := afterCascade_status c (mainCall c (mixed c d s) s).out
    (mainCascade c (mixed c d s) (frontEnd c (inputPair c d s) s)).2
  exact ⟨f ||| g, by rw [beforeIndex, hg, hf, frontEnd_status, BitVec.or_assoc]⟩

end Sys2Proof.Machine
end

