-- ==== Sys2Proof/Laws/PerInstr.lean ====
section
/-!
SUPPORT. Statements made per transaction, as syntax: the header the encoder writes is clean (30_encoding.md R140, R142, R150).
-/
namespace Sys2Proof.Laws

/-- A header with RSV 0, a word-aligned address and the given W. -/
abbrev Clean (h : Word) (w : Bool) : Prop :=
  headerRsv h = 0 ∧ (headerAddr h).extractLsb' 0 2 = 0 ∧ headerW h = w

/-- The encoded header has RSV 0, a word-aligned address, and W = 1 exactly for a write. -/
def CleanHeader.Statement (i : Instr) : Prop :=
  Clean (encode i).header i.isWrite

theorem CleanHeader.wrStatus (data : Word) : CleanHeader.Statement (.wrStatus data) :=
  (by decide : Clean (writeHeader 0x0000#16) true)
theorem CleanHeader.rdStatus : CleanHeader.Statement .rdStatus :=
  (by decide : Clean (readHeader 0x0000#16) false)
theorem CleanHeader.wrFreqOffset (data : Word) : CleanHeader.Statement (.wrFreqOffset data) :=
  (by decide : Clean (writeHeader 0x0004#16) true)
theorem CleanHeader.rdFreqOffset : CleanHeader.Statement .rdFreqOffset :=
  (by decide : Clean (readHeader 0x0004#16) false)
theorem CleanHeader.rdFreqWord : CleanHeader.Statement .rdFreqWord :=
  (by decide : Clean (readHeader 0x0008#16) false)
theorem CleanHeader.wrMode (data : Word) : CleanHeader.Statement (.wrMode data) :=
  (by decide : Clean (writeHeader 0x000C#16) true)
theorem CleanHeader.rdMode : CleanHeader.Statement .rdMode :=
  (by decide : Clean (readHeader 0x000C#16) false)
theorem CleanHeader.wrBandwidth (data : Word) : CleanHeader.Statement (.wrBandwidth data) :=
  (by decide : Clean (writeHeader 0x0010#16) true)
theorem CleanHeader.rdBandwidth : CleanHeader.Statement .rdBandwidth :=
  (by decide : Clean (readHeader 0x0010#16) false)
theorem CleanHeader.wrAgcSpeed (data : Word) : CleanHeader.Statement (.wrAgcSpeed data) :=
  (by decide : Clean (writeHeader 0x0014#16) true)
theorem CleanHeader.rdAgcSpeed : CleanHeader.Statement .rdAgcSpeed :=
  (by decide : Clean (readHeader 0x0014#16) false)
theorem CleanHeader.wrCwSidetone (data : Word) : CleanHeader.Statement (.wrCwSidetone data) :=
  (by decide : Clean (writeHeader 0x0018#16) true)
theorem CleanHeader.rdCwSidetone : CleanHeader.Statement .rdCwSidetone :=
  (by decide : Clean (readHeader 0x0018#16) false)
theorem CleanHeader.rdSidetoneInc : CleanHeader.Statement .rdSidetoneInc :=
  (by decide : Clean (readHeader 0x001C#16) false)
theorem CleanHeader.wrGainCal (data : Word) : CleanHeader.Statement (.wrGainCal data) :=
  (by decide : Clean (writeHeader 0x0020#16) true)
theorem CleanHeader.rdGainCal : CleanHeader.Statement .rdGainCal :=
  (by decide : Clean (readHeader 0x0020#16) false)
theorem CleanHeader.wrVolume (data : Word) : CleanHeader.Statement (.wrVolume data) :=
  (by decide : Clean (writeHeader 0x0024#16) true)
theorem CleanHeader.rdVolume : CleanHeader.Statement .rdVolume :=
  (by decide : Clean (readHeader 0x0024#16) false)
theorem CleanHeader.wrSquelch (data : Word) : CleanHeader.Statement (.wrSquelch data) :=
  (by decide : Clean (writeHeader 0x0028#16) true)
theorem CleanHeader.rdSquelch : CleanHeader.Statement .rdSquelch :=
  (by decide : Clean (readHeader 0x0028#16) false)
theorem CleanHeader.wrIqSwap (data : Word) : CleanHeader.Statement (.wrIqSwap data) :=
  (by decide : Clean (writeHeader 0x002C#16) true)
theorem CleanHeader.rdIqSwap : CleanHeader.Statement .rdIqSwap :=
  (by decide : Clean (readHeader 0x002C#16) false)
theorem CleanHeader.wrPwmMax (data : Word) : CleanHeader.Statement (.wrPwmMax data) :=
  (by decide : Clean (writeHeader 0x0030#16) true)
theorem CleanHeader.rdPwmMax : CleanHeader.Statement .rdPwmMax :=
  (by decide : Clean (readHeader 0x0030#16) false)
theorem CleanHeader.rdSignalStrength : CleanHeader.Statement .rdSignalStrength :=
  (by decide : Clean (readHeader 0x0034#16) false)
theorem CleanHeader.rdOutCount : CleanHeader.Statement .rdOutCount :=
  (by decide : Clean (readHeader 0x0038#16) false)
theorem CleanHeader.rdBlockIndex : CleanHeader.Statement .rdBlockIndex :=
  (by decide : Clean (readHeader 0x003C#16) false)
theorem CleanHeader.pushCode (data : Word) : CleanHeader.Statement (.pushCode data) :=
  (by decide : Clean (writeHeader 0x0040#16) true)
theorem CleanHeader.rdCapSeq : CleanHeader.Statement .rdCapSeq :=
  (by decide : Clean (readHeader 0x0044#16) false)
theorem CleanHeader.rdBlkSeq : CleanHeader.Statement .rdBlkSeq :=
  (by decide : Clean (readHeader 0x0048#16) false)
theorem CleanHeader.rdPerfCycles : CleanHeader.Statement .rdPerfCycles :=
  (by decide : Clean (readHeader 0x004C#16) false)
theorem CleanHeader.rdCapI (k : BitVec 8) : CleanHeader.Statement (.rdCapI k) :=
  (by decide +kernel : ∀ k : BitVec 8, Clean (readHeader (0x0400#16 + (k.setWidth 16 <<< 2))) false) k
theorem CleanHeader.rdCapQ (k : BitVec 8) : CleanHeader.Statement (.rdCapQ k) :=
  (by decide +kernel : ∀ k : BitVec 8, Clean (readHeader (0x0800#16 + (k.setWidth 16 <<< 2))) false) k
theorem CleanHeader.rdAudioOut (k : BitVec 10) : CleanHeader.Statement (.rdAudioOut k) :=
  (by decide +kernel : ∀ k : BitVec 10, Clean (readHeader (0x1000#16 + (k.setWidth 16 <<< 2))) false) k

end Sys2Proof.Laws
end

