-- ==== Sys2Proof/Tests/Slice0.lean ====
section
/-!
SUPPORT. Tests: refused configurations and indexes, the decoding of words written out from the spec, single transactions and stages
on the spec's own vectors (95_test_vectors.md), and for every statement with hypotheses a state and operands that meet them.
-/
namespace Sys2Proof.Tests

open Sys2Proof.Machine

/-! ### Well-formedness refuses an ill-formed term at each check (R8, R144) -/

theorem test_wf_item1 : ¬ { Config.reference with rMain := 0 }.Wf1 := by decide
theorem test_wf_item2 : ¬ { Config.reference with nBlock := 4001 }.Wf2 := by decide
theorem test_wf_item3 : ¬ { Config.reference with capShift := 3 }.Wf3 := by decide
theorem test_wf_item4 : ¬ { Config.reference with wPhase := 33 }.Wf4 := by decide
theorem test_wf_item5 : ¬ { Config.reference with wCic := 29 }.Wf5 := by decide
theorem test_wf_item6 : ¬ { Config.reference with outCap := 403 }.Wf6 := by decide
theorem test_wf_item7 : ¬ { Config.reference with agcSetpoint := 0 }.Wf7 := by decide
theorem test_wf_item8 :
    ¬ { Config.reference with agcPresets := { agcPresetsRef with slow := ⟨64, 12, 6250⟩ } }.Wf8 := by decide
theorem test_wf_item9 : ¬ { Config.reference with kAm := 16 }.Wf9 := by decide
theorem test_wf_windows : ¬ { Config.reference with capLen := 255 }.WfWindows := by decide
theorem test_wf_audio_index : Instr.wf 404 (.rdAudioOut 404) = false := by decide

/-- R8: the reference configuration is well formed. -/
theorem test_wf_reference : Config.reference.Wf :=
  ⟨by decide, by decide, by decide, by decide, by decide, by decide, by decide, by decide, by decide, by decide⟩

/-- The machine's configuration has the same numbers. -/
theorem test_wf_chip : Config.chip.Wf :=
  ⟨by decide, by decide, by decide, by decide, by decide, by decide, by decide, by decide, by decide, by decide⟩

/-! ### Decoding: each row's word, written from its encoding line (R410 to R443) -/

/-- What the decoder reads from a header and a data word. -/
def read (h data : Word) : Option Instr := (decode ⟨h, data⟩).toOption

theorem test_decode_status :
    read 0x80000000#32 0x1F#32 = some (.wrStatus 0x1F#32) ∧ read 0x00000000#32 7#32 = some .rdStatus := by decide
theorem test_decode_tuning :
    read 0x80000004#32 0x3E8#32 = some (.wrFreqOffset 1000#32) ∧ read 0x00000004#32 0#32 = some .rdFreqOffset ∧
    read 0x00000008#32 0#32 = some .rdFreqWord := by decide
theorem test_decode_mode :
    read 0x8000000C#32 4#32 = some (.wrMode 4#32) ∧ read 0x0000000C#32 0#32 = some .rdMode ∧
    read 0x80000010#32 0xBB8#32 = some (.wrBandwidth 3000#32) ∧ read 0x00000010#32 0#32 = some .rdBandwidth := by decide
theorem test_decode_agc_speed :
    read 0x80000014#32 7#32 = some (.wrAgcSpeed 7#32) ∧ read 0x00000014#32 0#32 = some .rdAgcSpeed := by decide
theorem test_decode_sidetone :
    read 0x80000018#32 600#32 = some (.wrCwSidetone 600#32) ∧ read 0x00000018#32 0#32 = some .rdCwSidetone ∧
    read 0x0000001C#32 0#32 = some .rdSidetoneInc := by decide
theorem test_decode_levels :
    read 0x80000020#32 100#32 = some (.wrGainCal 100#32) ∧ read 0x00000020#32 0#32 = some .rdGainCal ∧
    read 0x80000024#32 16#32 = some (.wrVolume 16#32) ∧ read 0x00000024#32 0#32 = some .rdVolume ∧
    read 0x80000028#32 500#32 = some (.wrSquelch 500#32) ∧ read 0x00000028#32 0#32 = some .rdSquelch := by decide
theorem test_decode_swap_and_scale :
    read 0x8000002C#32 3#32 = some (.wrIqSwap 3#32) ∧ read 0x0000002C#32 0#32 = some .rdIqSwap ∧
    read 0x80000030#32 1000#32 = some (.wrPwmMax 1000#32) ∧ read 0x00000030#32 0#32 = some .rdPwmMax := by decide
theorem test_decode_readouts :
    read 0x00000034#32 0#32 = some .rdSignalStrength ∧ read 0x00000038#32 0#32 = some .rdOutCount ∧
    read 0x0000003C#32 0#32 = some .rdBlockIndex ∧ read 0x00000044#32 0#32 = some .rdCapSeq ∧
    read 0x00000048#32 0#32 = some .rdBlkSeq ∧ read 0x0000004C#32 0#32 = some .rdPerfCycles := by decide
theorem test_decode_push : read 0x80000040#32 0xFFFF0800#32 = some (.pushCode 0xFFFF0800#32) := by decide
theorem test_decode_windows :
    read 0x00000404#32 5#32 = some (.rdCapI 1) ∧ read 0x00000BFC#32 0#32 = some (.rdCapQ 255) ∧
    read 0x0000164C#32 0#32 = some (.rdAudioOut 403) := by decide

/-- T-BUS-11 to T-BUS-19: every kind of illegal header. -/
theorem test_decode_illegal :
    read 0x80000008#32 1#32 = none ∧ read 0x00000040#32 0#32 = none ∧ read 0x00000050#32 0#32 = none ∧
    read 0x00000C00#32 0#32 = none ∧ read 0x00002000#32 0#32 = none ∧ read 0x00000002#32 0#32 = none ∧
    read 0x00010000#32 0#32 = none ∧ read 0x00001650#32 0#32 = none ∧ read 0x80000400#32 5#32 = none ∧
    read 0x80010040#32 0x800#32 = none := by decide

/-- The table's numbering: the header is the low word, the data word the high one (opcode_table.json). -/
theorem test_decode_table_word :
    decodeTableWord 32 0x8000000C = some (.wrMode 0#32) ∧
    decodeTableWord 64 0x000000048000000C = some (.wrMode 4#32) := by decide

/-- R142: the match and mask pairs of the rows are disjoint: on the bits both masks keep, their matches differ. -/
theorem test_rows_disjoint : opRows.length = 34 ∧
    opRows.Pairwise (fun a b => a.matchBits &&& (a.mask &&& b.mask) ≠ b.matchBits &&& (a.mask &&& b.mask)) := by
  decide +kernel

/-! ### Single transactions -/

/-- A small state to start from: reset with some registers moved. -/
def base : State := { State.reset with status := 0b100011#6, mode := .usb, ssbIdx := 3, agcHang := 9 }

/-- The state after one transaction that `s` takes from the bus. -/
def after (h data : Word) (s : State) : Option State :=
  match step { s with bus := [⟨h, data⟩] } with
  | .next t => some t
  | _ => none

/-- T-BUS-2, T-BUS-3. -/
theorem test_wrStatus_masks : (after 0x80000000#32 0x1F#32 base).map (·.status) = some 0b100000#6 := by decide +kernel
theorem test_wrStatus_all : (after 0x80000000#32 0xFFFFFFFF#32 base).map (·.status) = some 0#6 := by decide +kernel
theorem test_rdStatus : (after 0x00000000#32 0#32 base).map (fun t => (t.rdata, t.status)) =
    some (some 0x23#32, 0b100011#6) := by decide +kernel

/-- T-TUNE-3, T-TUNE-12. -/
theorem test_wrFreqOffset_minus_one : (after 0x80000004#32 0xFFFFFFFF#32 base).map (fun t => (t.freqOffset, t.freqWord)) =
    some (0xFFFFFFFF#32, 0xFFFFDE72#32) := by decide +kernel
theorem test_wrFreqOffset_clamps : (after 0x80000004#32 0x80000000#32 base).map (fun t => (t.freqOffset.toInt, t.freqWord)) =
    some (-250000, 0x80000000#32) := by decide +kernel

/-- T-BUS-4, T-BUS-6. -/
theorem test_wrMode_ignored : (after 0x8000000C#32 5#32 base).map (fun t => (t.mode, t.ssbIdx, t.status)) =
    some (.usb, 3, 0b100011#6) := by decide +kernel
theorem test_wrMode_enters : (after 0x8000000C#32 3#32 base).map (fun t => (t.mode, t.ssbIdx, t.agcHang)) =
    some (.lsb, 0, 9) := by decide +kernel

/-- T-BUS-7, T-BUS-8, T-BUS-9. -/
theorem test_wrAgcSpeed : (after 0x80000014#32 0xFFFFFFFF#32 base).map (·.agcSpeed) = some 3 := by decide +kernel
theorem test_wrIqSwap : (after 0x8000002C#32 2#32 base).map (·.iqSwap) = some 0 := by decide +kernel
theorem test_wrPwmMax : (after 0x80000030#32 0x00011170#32 base).map (·.pwmMax) = some 65535 := by decide +kernel

/-- T-ST-3, T-ST-8. -/
theorem test_wrCwSidetone : (after 0x80000018#32 600#32 base).map (fun t => (t.cwSidetone, t.sidetoneInc)) =
    some (600#32, 0x0C49BA5E#32) := by decide +kernel
theorem test_wrCwSidetone_clamps : (after 0x80000018#32 7000#32 base).map (fun t => (t.cwSidetone, t.sidetoneInc)) =
    some (6250#32, 0x80000000#32) := by decide +kernel

/-- T-IN-8: an entry of -1 reads as all ones. -/
theorem test_rdCapI_sign : (after 0x00000404#32 0#32 { base with capI := [0#8, 0xFF#8] }).map (·.rdata) =
    some (some 0xFFFFFFFF#32) := by decide +kernel
theorem test_rdAudioOut : (after 0x00001004#32 0#32 { base with audioOut := [1#16, 0x81F4#16] }).map (·.rdata) =
    some (some 0x000081F4#32) := by decide +kernel

/-- T-BUS-12: a read of ADC_DATA returns 0, sets BUS_ERR and runs no engine step. -/
theorem test_busError_read : (after 0x00000040#32 0#32 State.reset).map (fun t => (t.rdata, t.status, t.blkN)) =
    some (some 0#32, 0b100000#6, 0) := by decide +kernel
/-- T-BUS-19: a PUSH with RSV set runs no engine step and returns nothing. -/
theorem test_busError_write : (after 0x80010040#32 0x800#32 State.reset).map (fun t => (t.rdata, t.status, t.blkN)) =
    some (none, 0b100000#6, 0) := by decide +kernel

/-- T-IN-5, T-NCO-1: a code is captured, and the phase and the index advance. -/
theorem test_pushCode_captures :
    (after 0x80000040#32 0xA00#32 { State.reset with ncoPhase := 0xF0000000#32, freqWord := 0x20000000#32 }).map
      (fun t => (entry t.capShI 0, entry t.capShQ 0, t.ncoPhase, t.blkN)) = some (32#8, 0#8, 0x10000000#32, 1) := by
  decide +kernel
/-- T-IN-12: the window is published at index 255. -/
theorem test_pushCode_publishes :
    (after 0x80000040#32 0xA00#32 { State.reset with blkN := 255 }).map
      (fun t => (t.capSeq, t.status, entry t.capQ 255, t.blkN)) = some (1#32, 0b000010#6, 32#8, 256) := by
  decide +kernel

/-! ### Stages on the spec's vectors, with the reference collaborators -/

/-- T-LUT-6, T-LUT-11, T-LUT-16. -/
theorem test_lut : (sinLut Config.reference 257, cosLut Config.reference 257) = (32766, -201) ∧
    (sinLut Config.reference 640, cosLut Config.reference 640) = (-23170, -23170) ∧
    (sinLut Config.reference 1023, cosLut Config.reference 1023) = (-201, 32766) := by decide
/-- T-MIX-8, T-MIX-16. -/
theorem test_mixer : ncoRotate Config.reference 0x20000000#32 ⟨512#16, 0#16⟩ = ⟨362#16, -363#16⟩ ∧
    ncoRotate Config.reference 0x80000000#32 ⟨-2048#16, 0#16⟩ = ⟨2047#16, 0#16⟩ := by decide
/-- T-CIC-8. -/
theorem test_cic_integrators : integrate 32 1#16 (integrate 32 1#16 (integrate 32 1#16 .zero)) = ⟨3, 6, 10, 15, 0, 0, 0, 0⟩ := by
  decide
/-- T-CIC-2: the first output of R = 2. -/
theorem test_cic_output :
    (cicStep 32 2 0 ⟨1#16, 0#16⟩ (cicStep 32 2 0 ⟨1#16, 0#16⟩ .zero).cic).out = some ⟨5#16, 0#16⟩ := by decide
/-- T-EXT-2, T-EXT-10, T-EXT-13. -/
theorem test_extractors : (magRef 3#16 4#16, phaseRef 3#16 4#16) = (5#16, 9672#16) ∧
    (magRef (-1000#16) (-1#16), phaseRef (-1000#16) (-1#16)) = (1000#16, -32758#16) ∧
    (magRef 0x8000#16 0x8000#16, phaseRef 0x8000#16 0x8000#16) = (46340#16, -24576#16) := by decide +kernel
/-- T-AM-3, T-AM-4. -/
theorem test_am : (demodAm Config.reference ⟨-32768#16, -32768#16⟩ State.reset).1 = some 32767#16 ∧
    (demodAm Config.reference ⟨0#16, 0#16⟩ { State.reset with amAcc := 3200 }).1 = some (-96#16) := by decide +kernel
/-- T-FM-3. -/
theorem test_fm : (demodFm Config.reference ⟨-1000#16, 0#16⟩ { State.reset with fmLast := 32767 }).1 = some 1#16 := by
  decide +kernel
/-- T-SSB-3 at k = 3, T-SSB-4, T-SSB-6. -/
theorem test_ssb : (demodUsb Config.reference ⟨-32768#16, 1#16⟩ { State.reset with ssbIdx := 3 }).1 = some (-32767#16) ∧
    ssbRot 1 ⟨100#16, 7#16⟩ = ⟨-7#16, 100#16⟩ ∧ ssbRot 2 ⟨-32768#16, 5#16⟩ = ⟨32767#16, -5#16⟩ := by decide +kernel
/-- T-CW-3, T-CW-4. -/
theorem test_cw : (cwTone Config.reference { State.reset with cwMag := 100, stPhase := 0x20000000#32 }).1 = 70#16 ∧
    (cwTone Config.reference { State.reset with cwMag := 46340, stPhase := 0x40000000#32 }).1 = 32767#16 := by decide +kernel
/-- The dispatch (R330), on the examples of R333, R334, R338, R339 and R343. -/
theorem test_demod_dispatch :
    let run (m : Mode) (x : Pair) := demod Config.reference x { State.reset with
      mode := m, cwMag := 100, stPhase := 0x20000000#32 }
    (run .am ⟨100#16, 0#16⟩).1 = some 97#16 ∧ (run .fm ⟨0#16, 1000#16⟩).1 = some 16384#16 ∧
    ((run .usb ⟨10#16, 3#16⟩).1, (run .usb ⟨10#16, 3#16⟩).2.ssbIdx) = (some 10#16, 1#2) ∧
    ((run .lsb ⟨10#16, 3#16⟩).1, (run .lsb ⟨10#16, 3#16⟩).2.ssbIdx) = (some 10#16, 3#2) ∧
    (run .cw ⟨10#16, 3#16⟩).1 = some 70#16 := by decide +kernel
/-- T-AGC-1, T-AGC-12. -/
theorem test_agc :
    (fun r => (r.1, r.2.agcMaxHold, r.2.agcHang)) (agc Config.reference 16384#16 State.reset) = (20480#16, 268435456#64, 125#32) ∧
    (fun r => (r.1, r.2.agcHang)) (agc Config.reference (-2000#16) { State.reset with agcMaxHold := 196608000, agcHang := 10 }) =
      (-5462#16, 9#32) := by decide +kernel
/-- T-CLIP-3, T-CLIP-7. -/
theorem test_clip : softClip 8192 (-8193) = -8192 ∧ sat16 (softClip 8192 100000) = 32767 := by decide
/-- T-PWM-1. -/
theorem test_pwm : pwmScale (-1#16) 1000#16 = 499#16 ∧ pwmScale 32767#16 1000#16 = 999#16 := by decide
/-- T-EMIT-2: two of four copies are dropped. -/
theorem test_emit : (fun t => (t.workCount, t.status)) (emit Config.reference 7#16 4 { State.reset with workCount := 402 }) =
    (404, 0b010000#6) := by decide +kernel
/-- T-SS-4. -/
theorem test_strength : (blockEnd Config.reference { State.reset with magSum := 30299 }).signalStrength = 302#32 := by
  decide +kernel

/-! ### The register space by address, the pseudo-instructions, and the host's table words -/

/-- R102: the bytes of FREQ_OFFSET on the little-endian lanes. -/
theorem test_byte_lanes : let s := { State.reset with freqOffset := 0x11223344#32 }
    (peekByte s 0x0004#16, peekByte s 0x0007#16) = (0x44#8, 0x11#8) := by decide +kernel
/-- R150: TUNE -1 and NOP. -/
theorem test_pseudo : program (pseudoTune (-1) ++ pseudoNop) =
    [⟨0x80000004#32, 0xFFFFFFFF#32⟩, ⟨0x00000000#32, 0#32⟩] := by decide
/-- The transaction placed first on the bus is the one the next step takes. -/
theorem test_withFetchWord :
    (match step (State.reset.withFetchWord 64 0x000003E880000030) with | .next t => some (t.pwmMax, t.bus) | _ => none) =
      some (1000#16, []) := by decide +kernel

/-! ### Witnesses: each statement's hypotheses are met by a concrete state and operands, at the boundaries of its clauses -/

theorem witness_StepRunsTheDecodedTransaction :
    State.reset.bus = [] ∧ (decode ⟨0x164C#32, 0#32⟩).toOption = some (.rdAudioOut 403) ∧
    (decode ⟨0x1650#32, 0#32⟩).toOption = none := by decide
theorem witness_LaterDeliveriesDoNotChangeAStep : (State.reset.deliver ⟨0#32, 0#32⟩).bus ≠ [] := by decide
theorem witness_IllegalTransactionRaisesBusErrorAlone :
    ¬ LegalHeader 0x1650#32 ∧ LegalHeader 0x164C#32 ∧ ¬ LegalHeader 0x50#32 ∧ LegalHeader 0x4C#32 ∧ ¬ LegalHeader 0x3FC#32 ∧
    ¬ LegalHeader 0xC00#32 ∧ ¬ LegalHeader 0x40#32 ∧ ¬ LegalHeader 0x80000008#32 ∧ ¬ LegalHeader 0x2#32 ∧
    ¬ LegalHeader 0x7FFF0000#32 := by
  refine ⟨?_, ?_, ?_, ?_, ?_, ?_, ?_, ?_, ?_, ?_⟩ <;> decide +kernel
theorem witness_DecodeReadsBackEveryEncodedTransaction : Instr.wf Config.chip.outCap (.rdAudioOut 403) = true := by decide
theorem witness_EncodeWritesBackEveryDecodedTransaction :
    (decode ⟨0x80000040#32, 5#32⟩).toOption = some (.pushCode 5#32) := by decide
theorem witness_WrModeEntersTheModeAndResetsItsGroup :
    4 < (5#32).toNat ∧ 4 < (0xFFFFFFFF#32).toNat ∧ modeCode .am = (0#32).toNat ∧ Mode.am = State.reset.mode ∧
    modeCode .cw = (4#32).toNat ∧ Mode.cw ≠ State.reset.mode := by decide
theorem witness_WindowsAreReadAndNotWritten : Config.chip.outCap ≤ (404#10).toNat ∧ ¬ Config.chip.outCap ≤ (403#10).toNat := by
  decide
theorem witness_PwmScaleStaysBelowPwmMax :
    (0#16 : BitVec 16) = 0 ∧ (1#16 : BitVec 16) ≠ 0 ∧ (0x8000#16).toInt = -32768 ∧ (0#16).toInt = 0 ∧
    (0x7FFF#16).toInt = 32767 := by decide
/-- All three ways through a cascade, with HB1 of the test vectors: no CIC sample, an odd and an even call of HB1. -/
theorem witness_CascadeCallsAStageOnlyWhenTheOneBeforeIsReady :
    let r : CicResult := ⟨.zero, none, false⟩
    let q : CicResult := ⟨.zero, some ⟨1#16, 2#16⟩, false⟩
    r.out = none ∧ q.out = some ⟨1#16, 2#16⟩ ∧ (Config.reference.hb1.step 0 ⟨1#16, 2#16⟩ 0).2 = none ∧
    (Config.reference.hb1.step 1 ⟨1#16, 2#16⟩ 0).2 = some ⟨1#16, 2#16⟩ := by decide
theorem witness_OscillatorDoesNotDrift :
    let s := { State.reset with bus := [⟨0x80000040#32, 5#32⟩, ⟨0x80000008#32, 1#32⟩, ⟨0x80000040#32, 6#32⟩] }
    (∀ t ∈ s.bus.take 3, isTune t = false) ∧ (s.bus.take 3).countP isPush = 2 := by decide
theorem witness_BlockIndexIgnoresTheInterleaving (a b d : BusTxn) :
    Interleaves [[a, b], [d]] [a, d, b] ∧ Interleaves [[a, b], [d]] [d, a, b] ∧ State.reset.blkN < Config.chip.nBlock := by
  refine ⟨.next [] [[d]] a [b] _ (.next [[b]] [] d [] _ (.next [] [[]] b [] _ (.done _ (by simp)))),
    .next [[a, b]] [] d [] _ (.next [] [[]] a [b] _ (.next [] [[]] b [] _ (.done _ (by simp)))), by decide⟩
theorem witness_PushCodeCapturesAndPublishes :
    State.reset.capShI.length = Config.chip.capLen ∧ State.reset.capShQ.length = Config.chip.capLen ∧
    State.reset.blkN < Config.chip.capLen := by
  refine ⟨List.length_replicate, List.length_replicate, by decide⟩
theorem witness_WithoutAFinalReadySampleNoAudioRuns :
    (mainCall Config.chip (ncoRotate Config.chip State.reset.ncoPhase (inputPair Config.chip 5#16 State.reset)) State.reset).out =
      none := by decide +kernel
/-- A state one code before the first final-ready sample. -/
def almostReady : State := { State.reset with cicMain := { Cic.zero with cnt := 19 }, hb1Main := 1, blkN := 39 }
theorem witness_FinalReadySampleAddsMagnitudeAndCopies :
    (mainCall Config.chip (ncoRotate Config.chip almostReady.ncoPhase (inputPair Config.chip 5#16 almostReady)) almostReady).out ≠
      none ∧
    almostReady.workBuf.length = Config.chip.outCap ∧ almostReady.workCount ≤ Config.chip.outCap ∧
    almostReady.blkN + 1 ≠ Config.chip.nBlock :=
  ⟨Option.isSome_iff_ne_none.mp (by decide +kernel), List.length_replicate, by decide, by decide⟩
theorem witness_BlockEndPublishesAndClears :
    Config.chip.Wf ∧ State.reset.workBuf.length = Config.chip.outCap ∧ State.reset.workCount ≤ Config.chip.outCap :=
  ⟨test_wf_chip, List.length_replicate, by decide⟩
theorem witness_MixerRotatesWithoutSaturating :
    let x : Pair := ⟨-2048#16, 0#16⟩
    (x.i = 0 ∨ x.q = 0) ∧ (-2048 ≤ x.i.toInt ∧ x.i.toInt ≤ 2047) ∧ (-2048 ≤ x.q.toInt ∧ x.q.toInt ≤ 2047) := by decide
theorem witness_MixerKeepsTheMagnitude :
    let x : Pair := ⟨0#16, 2047#16⟩
    (x.i = 0 ∨ x.q = 0) ∧ (-2048 ≤ x.i.toInt ∧ x.i.toInt ≤ 2047) ∧ (-2048 ≤ x.q.toInt ∧ x.q.toInt ≤ 2047) := by decide
theorem witness_CicGivesEveryRthInput : 1 ≤ 1 ∧ 1 ≤ Config.chip.rMain := by decide
theorem witness_CicOutputSaturatesWithItsFlag : 20 ≤ ({ Cic.zero with cnt := 19 } : Cic).cnt + 1 := by decide
theorem witness_CicCombsUndoTheWrap :
    let xs : List Pair := [⟨-4#16, 3#16⟩]
    let x : Pair := ⟨3#16, -4#16⟩
    7 ≤ 64 ∧ 1 ≤ 2 ∧ 1 ≤ 3 ∧ 3 ≤ 16 ∧ 2 ^ 3 * 2 ^ 4 ≤ 2 ^ 7 ∧
    (∀ p ∈ xs ++ [x], InBits 3 p.i.toInt ∧ InBits 3 p.q.toInt) ∧ (xs.length + 1) % 2 = 0 := by decide
theorem witness_CicConstantInputHasItsDcGain :
    30 ≤ 64 ∧ 1 ≤ 20 ∧ 1 ≤ 12 ∧ 12 ≤ 16 ∧ 2 ^ 12 * 20 ^ 4 ≤ 2 ^ 30 ∧ InBits 12 (2047#16).toInt ∧ InBits 12 (-2048#16).toInt ∧
    4 ≤ 4 := by decide
theorem witness_DemodulatorWritesOnlyItsModeGroup :
    State.reset.mode = .am ∧ base.mode = .usb ∧ { base with mode := .lsb }.mode = .lsb ∧
    { base with mode := .fm }.mode = .fm ∧ { base with mode := .cw }.mode = .cw := by
  decide
theorem witness_AmTracksTheEnvelope :
    let s := { State.reset with amAcc := 160 }
    Config.reference.Wf ∧ 0 ≤ s.amAcc.toInt ∧ s.amAcc.toInt ≤ 65535 * 2 ^ Config.reference.kAm ∧
    s.amAcc.toInt / 2 ^ Config.reference.kAm = ((Config.reference.mag 3#16 4#16).toNat : Int) :=
  ⟨test_wf_reference, by decide, by decide, by decide +kernel⟩
theorem witness_AmOutputOfAConstantEnvelopeFallsToZero :
    Config.reference.Wf ∧ State.reset.amAcc = 0 ∧ (Config.reference.mag 3#16 4#16).toNat * 2 ^ Config.reference.kAm ≤ 160 :=
  ⟨test_wf_reference, rfl, by decide +kernel⟩
theorem witness_SsbRotationsArePowersOfJ :
    let x : Pair := ⟨-32767#16, 32767#16⟩
    let y : Pair := ⟨0x8000#16, 0x8000#16⟩
    (x.i.toInt ≠ -32768 ∧ x.q.toInt ≠ -32768) ∧ y.i.toInt = -32768 ∧ y.q.toInt = -32768 := by decide
theorem witness_CwScalesTheSidetoneByTheMagnitude : Config.chip.Wf := test_wf_chip
theorem witness_CwIsSilentUntilItsFirstSample :
    (4#32).toNat = 4 ∧ State.reset.mode ≠ .cw ∧
    (List.replicate 18 (⟨1#16, 1#16⟩ : Pair)).length + 1 < 2 * Config.chip.rCw ∧
    (List.replicate 19 (⟨1#16, 1#16⟩ : Pair)).length + 1 = 2 * Config.chip.rCw := by decide
theorem witness_AModeJustEnteredStartsFresh : modeCode .fm = (1#32).toNat ∧ Mode.fm ≠ State.reset.mode := by decide
theorem witness_AgcRunsOnePhaseAndKeepsItsRange :
    let d : Detector := ⟨BitVec.ofNat 64 (32767 * 2 ^ 16), 1⟩
    let e : Sample → Int := fun x => |x.toInt| * 2 ^ Config.chip.agcExtra
    Config.chip.Wf ∧ 0 ≤ d.hold.toInt ∧ d.hold.toInt ≤ 32768 * 2 ^ Config.chip.agcExtra ∧
    d.hold.toInt < e (-32768#16) ∧ e 32767#16 ≤ d.hold.toInt ∧ d.hang ≠ 0 ∧ ({ d with hang := 0 } : Detector).hang = 0 :=
  ⟨test_wf_chip, by decide, by decide, by decide, by decide, by decide, rfl⟩
theorem witness_AgcHangLastsExactlyItsCount :
    let d : Detector := ⟨BitVec.ofNat 64 (2 ^ 16), 2⟩
    ([1#16] : List Sample).length < d.hang.toNat ∧ ([1#16, -1#16] : List Sample).length = d.hang.toNat ∧
    (∀ y ∈ [0#16, 1#16, -1#16], agcInput Config.chip y ≤ d.hold.toInt) := by
  refine ⟨by decide, by decide, ?_⟩
  intro y hy
  simp only [List.mem_cons, List.not_mem_nil, or_false] at hy
  rcases hy with rfl | rfl | rfl <;> decide
theorem witness_AgcGainSoftClipAndClamp : Config.chip.Wf := test_wf_chip
theorem witness_CapturedSamplesFitTheirByte : Config.reference.Wf := test_wf_reference
theorem witness_OnlyWrStatusClearsAFlag : base.status.getLsbD 5 = true := by decide
theorem witness_NothingReadsTheFlagsOrTheCalibration :
    (∀ data, Instr.pushCode 5#32 ≠ .wrStatus data) ∧ Instr.pushCode 5#32 ≠ .rdStatus ∧
    (∀ data, Instr.pushCode 5#32 ≠ .wrGainCal data) ∧ Instr.pushCode 5#32 ≠ .rdGainCal := by simp
theorem witness_IrqRisesAtPublicationsAndFallsWhenCleared :
    State.reset.irq = false ∧ { State.reset with blkN := 255 }.blkN + 1 = Config.chip.capLen ∧
    { State.reset with blkN := 3999 }.blkN + 1 = Config.chip.nBlock ∧
    (0xFFFFFFFF#32).getLsbD 0 = true ∧ (0xFFFFFFFF#32).getLsbD 1 = true := by decide
theorem witness_LookUpTablesAreOneSineWave :
    0 < 256 ∧ 255 < 256 ∧ (256 < 257 ∧ 257 < 512) ∧ (256 < 511 ∧ 511 < 512) ∧ 512 ≤ 512 ∧ 512 ≤ 1023 ∧ 1023 < 1024 := by decide
theorem witness_EqualCountsMeanOnePublishedWindow : 0 ≤ 2 ^ 32 - 1 ∧ 2 ^ 32 - 1 < 2 ^ 32 := by decide
theorem witness_ReadsAreSilentAndWritesIdempotent :
    Instr.rdStatus.isWrite = false ∧ (Instr.wrMode 1#32).isWrite = true ∧ (∀ data, Instr.wrMode 1#32 ≠ .pushCode data) := by
  simp [Instr.isWrite]

/-- A state in the middle of a block, with a sample due, a code waiting and most registers away from reset. -/
def midBlock : State := { almostReady with
  freqOffset := -250000#32, freqWord := 0x80000000#32, cwSidetone := 6250#32, sidetoneInc := 0x80000000#32
  amAcc := 3200, agcMaxHold := BitVec.ofNat 64 (32768 * 2 ^ 16), agcHang := 7, outCount := 400, blkSeq := 3
  magSum := 5, bus := [⟨0x80000040#32, 0xA00#32⟩] }

theorem witness_EveryStepKeepsTheStateRanges : midBlock.Inv ∧ ∃ t, step midBlock = .next t := by
  refine ⟨⟨by decide, by decide, by decide, by decide, by decide, by decide, by decide, by decide, by decide,
    List.length_replicate, List.length_replicate, List.length_replicate, by decide, by decide +kernel, by decide,
    by decide +kernel, by decide, List.length_replicate, List.length_replicate, List.length_replicate, fun k _ => ?_⟩, ?_⟩
  · show (List.replicate 404 (0 : BitVec 16)).getD k 0 = 0
    simp only [List.getD_eq_getElem?_getD, List.getElem?_replicate]
    split <;> rfl
  · exact ⟨_, if_pos test_wf_chip⟩
theorem witness_EveryStepKeepsTheDecimationAligned : midBlock.Aligned ∧ ∃ t, step midBlock = .next t :=
  ⟨⟨by decide, by decide, by decide, by decide, .inr rfl, by decide⟩, ⟨_, if_pos test_wf_chip⟩⟩

end Sys2Proof.Tests
end

section
/-!
PROOFS. The widths of a captured sample: what R8 item 3 gives the mid-code, the zero-centred code of R201 and the capture entry of R204.
-/
namespace Sys2Proof.Machine

/-! ### The mid-code of a well-formed configuration (R7, R8 item 3) -/

/-- MID is half the range of an ADC code. -/
theorem two_mul_mid (c : Config) (h : 1 ≤ c.adcBits) : 2 * c.mid = 2 ^ c.adcBits :=
  mul_pow_sub_one (by omega) 2

/-- An ADC code of at most 16 bits has a mid-code within a signed 16-bit sample. -/
theorem mid_le_sample (c : Config) (h : c.adcBits ≤ 16) : c.mid ≤ 32768 :=
  Nat.pow_le_pow_right (n := 2) (by decide) (by omega : c.adcBits - 1 ≤ 15)

/-- ADC_BITS at most 8 + CAP_SHIFT keeps the mid-code within a signed byte shifted left by CAP_SHIFT. -/
theorem mid_le_shiftedByte (c : Config) (h : c.adcBits ≤ 8 + c.capShift) : c.mid ≤ 128 * 2 ^ c.capShift :=
  calc c.mid ≤ 2 ^ (7 + c.capShift) := Nat.pow_le_pow_right (by decide) (by omega)
    _ = 128 * 2 ^ c.capShift := pow_add 2 7 c.capShift

/-! ### The zero-centred code (R201) -/

/-- The low ADC_BITS bits of any number, less MID, lie in [-MID, MID-1]. -/
theorem lowBits_sub_mid_bounds (c : Config) (n : Nat) (h : 1 ≤ c.adcBits) :
    -(c.mid : Int) ≤ ((n % 2 ^ c.adcBits : Nat) : Int) - c.mid ∧ ((n % 2 ^ c.adcBits : Nat) : Int) - c.mid ≤ c.mid - 1 := by
  have hlt : n % 2 ^ c.adcBits < 2 ^ c.adcBits := Nat.mod_lt n (Nat.two_pow_pos _)
  have hmid := two_mul_mid c h
  omega

/-- The difference of R201 fits the sample that holds it. -/
theorem zeroCentre_toInt (c : Config) (d : BitVec 16) (h : c.Wf3) :
    (zeroCentre c d).toInt = ((d.toNat % 2 ^ c.adcBits : Nat) : Int) - c.mid := by
  obtain ⟨hpos, hle, -⟩ := h
  have hmid := mid_le_sample c hle
  have hrange := lowBits_sub_mid_bounds c d.toNat hpos
  exact toSample_toInt _ (by omega)

/-- The zero-centred code lies in [-MID, MID-1]. -/
theorem zeroCentre_bounds (c : Config) (d : BitVec 16) (h : c.Wf3) :
    -(c.mid : Int) ≤ (zeroCentre c d).toInt ∧ (zeroCentre c d).toInt ≤ c.mid - 1 :=
  zeroCentre_toInt c d h ▸ lowBits_sub_mid_bounds c d.toNat h.1

/-! ### The capture entry (R204) -/

/-- An 8-bit signed store of a value in range reads back as the value. -/
theorem toInt_ofInt8 (v : Int) (h : -128 ≤ v ∧ v ≤ 127) : (BitVec.ofInt 8 v).toInt = v := by
  rw [BitVec.toInt_ofInt]
  exact Int.bmod_eq_of_le (by omega) (by omega)

/-- The arithmetic shift by `s` of a value within a signed byte shifted left by `s` is a signed byte. -/
theorem asr_byte_bounds (v : Int) (s : Nat) (h : -(128 * 2 ^ s) ≤ v ∧ v < 128 * 2 ^ s) :
    -128 ≤ asr v s ∧ asr v s ≤ 127 := by
  obtain ⟨hlo, hhi⟩ := h
  have hge : -128 ≤ v / 2 ^ s := Int.le_ediv_of_mul_le (pow2_pos s) (by omega)
  have hlt : v / 2 ^ s < 128 := Int.ediv_lt_of_lt_mul (pow2_pos s) hhi
  exact ⟨hge, Int.le_of_lt_add_one hlt⟩

/-- The entry of a sample in [-MID, MID-1] is the sample shifted right, with nothing lost. -/
theorem captureEntry_toInt (c : Config) (x : Sample) (hw : c.adcBits ≤ 8 + c.capShift)
    (h : -(c.mid : Int) ≤ x.toInt ∧ x.toInt ≤ c.mid - 1) :
    (captureEntry c x).toInt = x.toInt / 2 ^ c.capShift := by
  have hmid : (c.mid : Int) ≤ 128 * 2 ^ c.capShift := by exact_mod_cast mid_le_shiftedByte c hw
  exact toInt_ofInt8 _ (asr_byte_bounds x.toInt c.capShift (by omega))

/-- Settles O25: R8 item 3 bounds MID both by the sample and by the shifted byte, so neither store of R201 and R204 wraps. -/
theorem capturedSamplesFitTheirByte : Obligations.CapturedSamplesFitTheirByte := by
  unfold Obligations.CapturedSamplesFitTheirByte
  intro c d hwf
  obtain ⟨-, -, h3, -⟩ := hwf
  have ⟨_, _, hwidth⟩ := h3
  obtain ⟨hlo, hhi⟩ := zeroCentre_bounds c d h3
  exact ⟨zeroCentre_toInt c d h3, hlo, hhi, captureEntry_toInt c _ hwidth ⟨hlo, hhi⟩⟩

end Sys2Proof.Machine
end

section
/-!
PROOFS. What one transaction and one step can do: the arms of `exec` sorted by what they write, the three ways of a step, and what
an engine step does to the index, the queue and the flags.
-/
namespace Sys2Proof.Machine

/-- The machine's configuration is well formed (R8). -/
theorem chip_wf : Config.chip.Wf := by decide

/-! ### The meanings of the transactions -/

/-- A write of MODE changes nothing, or enters a mode (R415, R345). -/
theorem writeMode_cases (c : Config) (v : Nat) (s : State) :
    writeMode c v s = s ∨ ∃ m, writeMode c v s = modeEnter c m { s with mode := m } := by
  unfold writeMode
  cases modeOfCode v with
  | none => exact .inl rfl
  | some m =>
    by_cases hm : m = s.mode
    · exact .inl (if_pos hm)
    · exact .inr ⟨m, if_neg hm⟩

/-- What a transaction other than PUSH_CODE and WR_STATUS leaves alone: the engine, the flags and the queue. -/
abbrev KeepsEngine (s t : State) : Prop := SameEngine s t ∧ t.status = s.status ∧ t.bus = s.bus

/-- A write of MODE moves MODE and the groups of the modes alone (R415). -/
theorem writeMode_keepsEngine (c : Config) (v : Nat) (s : State) : KeepsEngine s (writeMode c v s).noResponse := by
  rcases writeMode_cases c v s with h | ⟨m, h⟩ <;> rw [h]
  · exact ⟨by constructor <;> rfl, rfl, rfl⟩
  · cases m <;> exact ⟨by constructor <;> rfl, rfl, rfl⟩

/-- The three kinds of meaning: WR_STATUS, PUSH_CODE, and all others, which leave the engine, the flags and the queue alone. -/
theorem exec_cases (i : Instr) (s : State) :
    (∃ data, i = .wrStatus data) ∨ (∃ data, i = .pushCode data) ∨ ∃ t, exec i s = .next t ∧ KeepsEngine s t := by
  cases i
  case wrStatus data => exact .inl ⟨data, rfl⟩
  case pushCode data => exact .inr (.inl ⟨data, rfl⟩)
  case wrMode data => exact .inr (.inr ⟨_, rfl, writeMode_keepsEngine _ _ s⟩)
  all_goals exact .inr (.inr ⟨_, rfl, by constructor <;> rfl, rfl, rfl⟩)

/-- WR_STATUS as one record update (R410). -/
theorem exec_wrStatus (data : Word) (s : State) :
    exec (.wrStatus data) s = .next { s with status := s.status &&& ~~~formMask data, rdata := none } := rfl

/-- A flag after WR_STATUS: cleared by a 1 at its bit, kept by a 0 (R410). -/
theorem clearMask_getLsbD (f : BitVec 6) (data : Word) (b : Nat) :
    (f &&& ~~~formMask data).getLsbD b = (f.getLsbD b && !data.getLsbD b) := by
  by_cases hb : b < 6
  · simp [formMask, hb]
  · simp [BitVec.getLsbD_of_ge f b (by omega)]

/-- PUSH_CODE is the engine step of its container (R437). -/
theorem exec_pushCode (data : Word) (s : State) :
    exec (.pushCode data) s = .next (engineStep Config.chip (formCode data) s).noResponse := rfl

/-- A transaction is a legal PUSH_CODE exactly when it decodes to one. -/
theorem isPush_iff (u : BusTxn) : isPush u = true ↔ ∃ data, decode u = .ok (.pushCode data) := by
  unfold isPush
  cases decode u with
  | error e => simp
  | ok i => cases i <;> simp

/-! ### The three ways of a step -/

/-- A step is idle, runs the transaction that the head of the queue decodes to, or raises BusError (R105, R109, R147, R480). -/
theorem step_cases (s : State) :
    (s.bus = [] ∧ step s = .next s) ∨
    (∃ u rest i, s.bus = u :: rest ∧ decode u = .ok i ∧ step s = exec i { s with bus := rest }) ∨
    (∃ u rest e, s.bus = u :: rest ∧ decode u = .error e ∧ step s = .next (busError u.header { s with bus := rest })) := by
  have hstep : step s = match s.takeTxn with | none => .next s | some (u, s1) => perform u s1 := if_pos chip_wf
  rw [hstep, State.takeTxn]
  cases s.bus with
  | nil => exact .inl ⟨rfl, rfl⟩
  | cons u rest =>
    unfold perform
    dsimp only
    cases hd : decode u with
    | ok i => exact .inr (.inl ⟨u, rest, i, rfl, hd, rfl⟩)
    | error e => exact .inr (.inr ⟨u, rest, e, rfl, hd, rfl⟩)

/-! ### The engine step -/

/-- An engine step writes no flag but to set it (R52). -/
theorem engineStep_status (c : Config) (d : BitVec 16) (s : State) :
    ∃ f, (engineStep c d s).status = s.status ||| f := by
  obtain ⟨f, hf⟩ := beforeIndex_status c d s
  refine ⟨(if s.blkN + 1 = c.capLen then flagCapReady else 0) ||| f |||
    (if (beforeIndex c d s).blkN + 1 = c.nBlock then flagBlockDone else 0), ?_⟩
  rw [engineStep_eq, advanceIndex_eq]
  dsimp only
  rw [hf, capturePublish_eq]
  split <;> split <;> simp [*, BitVec.or_assoc]

/-- An engine step advances the index by one and returns it to 0 at the end of the block (R212, R215). -/
theorem engineStep_blkN (c : Config) (d : BitVec 16) (s : State) :
    (engineStep c d s).blkN = if s.blkN + 1 = c.nBlock then 0 else s.blkN + 1 := by
  rw [engineStep_eq, advanceIndex_eq, beforeIndex_frame]

/-- An engine step takes nothing from the queue. -/
theorem engineStep_bus (c : Config) (d : BitVec 16) (s : State) : (engineStep c d s).bus = s.bus := by
  rw [engineStep_eq, advanceIndex_eq, beforeIndex_frame]

end Sys2Proof.Machine
end

section
/-!
PROOFS. The flags of STATUS and `irq`: who sets them, who clears them, and that no rule of the datapath reads them or GAIN_CAL.
-/
namespace Sys2Proof.Machine

/-- Settles O56: of the transactions only WR_STATUS clears a flag, by `exec_cases`; the engine step and BusError set flags. -/
theorem onlyWrStatusClearsAFlag : Obligations.OnlyWrStatusClearsAFlag := by
  unfold Obligations.OnlyWrStatusClearsAFlag
  intro s b hb
  rcases step_cases s with ⟨-, hstep⟩ | ⟨u, rest, i, hbus, hdec, hstep⟩ | ⟨u, rest, e, -, -, hstep⟩ <;> rw [hstep]
  · exact ⟨s, rfl, .inl hb⟩
  · rcases exec_cases i { s with bus := rest } with ⟨data, rfl⟩ | ⟨data, rfl⟩ | ⟨t, ht, -, hstatus, -⟩
    · refine ⟨_, exec_wrStatus data _, ?_⟩
      cases hd : data.getLsbD b with
      | true => exact .inr ⟨u, rest, data, hbus, hdec, hd⟩
      | false => exact .inl (by rw [clearMask_getLsbD, hb, hd]; rfl)
    · obtain ⟨f, hf⟩ := engineStep_status Config.chip (formCode data) { s with bus := rest }
      exact ⟨_, exec_pushCode data _, .inl (by simp [hf, hb])⟩
    · exact ⟨t, ht, .inl (by rw [hstatus]; exact hb)⟩
  · exact ⟨_, rfl, .inl (by simp [busError_eq, hb])⟩

/-! ### The stages and `irq` (R471) -/

/-- `irq` follows the flags alone. -/
theorem irq_congr {s t : State} (h : t.status = s.status) : t.irq = s.irq := by
  rw [State.irq, State.irq, h]

/-- Setting a flag raises `irq` exactly when it is one of the two event flags. -/
theorem irq_setFlag (f : BitVec 6) (s : State) :
    (s.setFlag f).irq = (s.irq || (f.getLsbD 0 || f.getLsbD 1)) := by
  simp only [State.irq, setFlag_status, BitVec.getLsbD_or]
  ac_rfl

/-- A flag that is no event flag leaves `irq` as it is. -/
theorem irq_setFlagIf (b : Bool) (f : BitVec 6) (s : State) (h : (f.getLsbD 0 || f.getLsbD 1) = false) :
    (s.setFlagIf b f).irq = s.irq := by
  cases b with
  | false => rfl
  | true => exact (irq_setFlag f s).trans (by rw [h, Bool.or_false])

theorem mainCascade_irq (c : Config) (x : Pair) (s : State) : (mainCascade c x s).2.irq = s.irq :=
  irq_setFlagIf _ flagCicSat _ (by decide)

theorem cwCascade_irq (c : Config) (x : Pair) (s : State) : (cwCascade c x s).2.irq = s.irq :=
  irq_setFlagIf _ flagCwCicSat _ (by decide)

theorem demod_irq (c : Config) (x : Pair) (s : State) : (demod c x s).2.irq = s.irq := by
  rcases demod_cases c x s with ⟨_, h⟩ | ⟨_, h⟩ | ⟨_, h⟩ | ⟨_, h⟩ | ⟨_, h⟩ <;> rw [h]
  case inr.inr.inr.inr =>
    calc (demodCw c x s).2.irq = (cwMagnitude c (cwCascade c x s).1 (cwCascade c x s).2).irq := rfl
      _ = (cwCascade c x s).2.irq := by rw [cwMagnitude_eq]; rfl
      _ = s.irq := cwCascade_irq c x s
  all_goals rfl

theorem emit_irq (c : Config) (p : BitVec 16) (n : Nat) (s : State) : (emit c p n s).irq = s.irq := by
  induction n generalizing s with
  | zero => rfl
  | succ n ih =>
    rw [emit, ih, emitOne]
    split
    · rfl
    · exact irq_setFlagIf true flagOutOvf s (by decide)

theorem finalReady_irq (c : Config) (x : Pair) (s : State) : (finalReady c x s).irq = s.irq := by
  have hd : (demod c x (ssAccumulate c x s)).2.irq = s.irq := demod_irq c x _
  unfold finalReady
  generalize demod c x (ssAccumulate c x s) = r at hd
  rcases r with ⟨_ | a, s1⟩
  · exact hd
  · exact (emit_irq c _ _ _).trans hd

theorem afterCascade_irq (c : Config) (r : Option Pair) (s : State) : (afterCascade c r s).irq = s.irq := by
  cases r with
  | none => rfl
  | some x => exact finalReady_irq c x s

/-- The front end raises `irq` exactly when it publishes the capture window (R205). -/
theorem frontEnd_irq (c : Config) (x : Pair) (s : State) :
    (frontEnd c x s).irq = (s.irq || decide (s.blkN + 1 = c.capLen)) := by
  rw [irq_congr (frontEnd_status c x s), capturePublish]
  split
  · rw [irq_setFlag]
    simp [*, flagCapReady]
  · simp [*]

/-- An engine step raises `irq` exactly when it publishes the capture window or ends the block (R205, R215). -/
theorem engineStep_irq (c : Config) (d : BitVec 16) (s : State) :
    (engineStep c d s).irq = (s.irq || decide (s.blkN + 1 = c.capLen) || decide (s.blkN + 1 = c.nBlock)) := by
  have hbefore : (beforeIndex c d s).irq = (s.irq || decide (s.blkN + 1 = c.capLen)) := by
    rw [beforeIndex, afterCascade_irq, mainCascade_irq, frontEnd_irq]
  have hblk : (beforeIndex c d s).blkN = s.blkN := by rw [beforeIndex_frame]
  rw [engineStep_eq, advanceIndex, hblk, ← hbefore]
  split
  · refine (irq_setFlag flagBlockDone _).trans ?_
    simp [*, flagBlockDone]
  · simp [*, State.irq]

/-- After a PUSH_CODE `irq` is high when it was high before, or when the code is one of a publication (R205, R215). -/
theorem pushCode_irq (data : Word) (s : State) :
    (engineStep Config.chip (formCode data) s).noResponse.irq = true ↔
      s.irq = true ∨ s.blkN + 1 = Config.chip.capLen ∨ s.blkN + 1 = Config.chip.nBlock := by
  rw [irq_congr (noResponse_status _), engineStep_irq]
  simp only [Bool.or_eq_true, decide_eq_true_eq, or_assoc]

/-- BusError sets an error bit only. -/
theorem busError_irq (h : Word) (s : State) : (busError h s).irq = s.irq := by
  simp [State.irq, busError_eq, flagBusErr]

/-- A WR_STATUS never raises `irq`, and lowers it with a 1 at both event bits (R410). -/
theorem wrStatus_irq (data : Word) (s : State) :
    State.irq { s with status := s.status &&& ~~~formMask data, rdata := none } =
      (s.status.getLsbD 0 && !data.getLsbD 0 || s.status.getLsbD 1 && !data.getLsbD 1) := by
  simp only [State.irq, clearMask_getLsbD]

/-- Settles O58: `engineStep_irq` says when PUSH_CODE raises `irq`; by `exec_cases` no other transaction can, and BusError sets an
error bit only. -/
theorem irqRisesAtPublicationsAndFallsWhenCleared : Obligations.IrqRisesAtPublicationsAndFallsWhenCleared := by
  unfold Obligations.IrqRisesAtPublicationsAndFallsWhenCleared
  refine ⟨fun s => Bool.or_eq_true_iff, fun s hlow => ?_, fun data s hidx => ?_, fun data s h0 h1 => ?_⟩
  · rcases step_cases s with ⟨-, hstep⟩ | ⟨u, rest, i, hbus, hdec, hstep⟩ | ⟨u, rest, e, -, -, hstep⟩ <;> rw [hstep]
    · exact ⟨s, rfl, fun h => by simp [hlow] at h⟩
    · have hlow' : State.irq { s with bus := rest } = false := hlow
      rcases exec_cases i { s with bus := rest } with ⟨data, rfl⟩ | ⟨data, rfl⟩ | ⟨t, ht, -, hstatus, -⟩
      · refine ⟨_, exec_wrStatus data _, fun h => ?_⟩
        obtain ⟨h0, h1⟩ := Bool.or_eq_false_iff.mp hlow
        rw [wrStatus_irq] at h
        simp only [h0, h1, Bool.false_and, Bool.or_self, Bool.false_eq_true] at h
      · refine ⟨_, exec_pushCode data _, fun h => ⟨?_, u, rest, hbus, (isPush_iff u).mpr ⟨data, hdec⟩⟩⟩
        exact ((pushCode_irq data _).mp h).resolve_left (by simp [hlow'])
      · exact ⟨t, ht, fun h => by simp [irq_congr hstatus, hlow'] at h⟩
    · have hlow' : State.irq { s with bus := rest } = false := hlow
      exact ⟨_, rfl, fun h => by simp [busError_irq, hlow'] at h⟩
  · exact ⟨_, exec_pushCode data s, (pushCode_irq data s).mpr (.inr hidx)⟩
  · exact ⟨_, exec_wrStatus data s, by simp [wrStatus_irq, h0, h1]⟩

/-! ### What the flags and GAIN_CAL do not reach (R52, R62) -/

/-- The state with the flags of `f` set as well and GAIN_CAL at `g`. -/
def State.overlay (f : BitVec 6) (g : Word) (s : State) : State := { s with status := s.status ||| f, gainCal := g }

@[simp] theorem overlay_blkN (f : BitVec 6) (g : Word) (s : State) : (s.overlay f g).blkN = s.blkN := rfl
@[simp] theorem overlay_mode (f : BitVec 6) (g : Word) (s : State) : (s.overlay f g).mode = s.mode := rfl
@[simp] theorem overlay_workCount (f : BitVec 6) (g : Word) (s : State) : (s.overlay f g).workCount = s.workCount := rfl

/-- Setting a flag commutes with the flags and the calibration laid over the state. -/
theorem setFlag_overlay (a f : BitVec 6) (g : Word) (s : State) :
    (s.overlay f g).setFlag a = (s.setFlag a).overlay f g :=
  have hcomm : s.status ||| f ||| a = s.status ||| a ||| f := by ac_rfl
  congrArg (fun flags => { s with status := flags, gainCal := g }) hcomm

theorem setFlagIf_overlay (b : Bool) (a f : BitVec 6) (g : Word) (s : State) :
    (s.overlay f g).setFlagIf b a = (s.setFlagIf b a).overlay f g := by
  cases b with
  | false => rfl
  | true => exact setFlag_overlay a f g s

theorem captureWrite_overlay (c : Config) (x : Pair) (f : BitVec 6) (g : Word) (s : State) :
    captureWrite c x (s.overlay f g) = (captureWrite c x s).overlay f g := by
  rw [captureWrite_eq, captureWrite_eq]
  rfl

theorem capturePublish_overlay (c : Config) (f : BitVec 6) (g : Word) (s : State) :
    capturePublish c (s.overlay f g) = (capturePublish c s).overlay f g := by
  rw [capturePublish, capturePublish, overlay_blkN]
  by_cases h : s.blkN + 1 = c.capLen
  · rw [if_pos h, if_pos h]
    exact setFlag_overlay flagCapReady f g { s with capI := s.capShI, capQ := s.capShQ, capSeq := s.capSeq + 1 }
  · rw [if_neg h, if_neg h]

theorem frontEnd_overlay (c : Config) (x : Pair) (f : BitVec 6) (g : Word) (s : State) :
    frontEnd c x (s.overlay f g) = (frontEnd c x s).overlay f g := by
  unfold frontEnd
  rw [captureWrite_overlay, capturePublish_overlay]
  rfl

theorem mainCascade_overlay (c : Config) (x : Pair) (f : BitVec 6) (g : Word) (s : State) :
    mainCascade c x (s.overlay f g) = ((mainCascade c x s).1, (mainCascade c x s).2.overlay f g) :=
  congrArg (Prod.mk _) (setFlagIf_overlay (mainCall c x s).sat flagCicSat f g
    { s with cicMain := (mainCall c x s).cic, hb1Main := (mainCall c x s).hb1, hb2Main := (mainCall c x s).hb2 })

theorem cwCascade_overlay (c : Config) (x : Pair) (f : BitVec 6) (g : Word) (s : State) :
    cwCascade c x (s.overlay f g) = ((cwCascade c x s).1, (cwCascade c x s).2.overlay f g) :=
  congrArg (Prod.mk _) (setFlagIf_overlay (cwCall c x s).sat flagCwCicSat f g
    { s with cicCw := (cwCall c x s).cic, hb1Cw := (cwCall c x s).hb1, hb2Cw := (cwCall c x s).hb2 })

theorem cwMagnitude_overlay (c : Config) (r : Option Pair) (f : BitVec 6) (g : Word) (s : State) :
    cwMagnitude c r (s.overlay f g) = (cwMagnitude c r s).overlay f g := by
  cases r <;> rfl

theorem cwTone_overlay (c : Config) (f : BitVec 6) (g : Word) (s : State) :
    cwTone c (s.overlay f g) = ((cwTone c s).1, (cwTone c s).2.overlay f g) := rfl

theorem demodCw_overlay (c : Config) (x : Pair) (f : BitVec 6) (g : Word) (s : State) :
    demodCw c x (s.overlay f g) = ((demodCw c x s).1, (demodCw c x s).2.overlay f g) := by
  simp only [demodCw, cwCascade_overlay, cwMagnitude_overlay, cwTone_overlay]

theorem demod_overlay (c : Config) (x : Pair) (f : BitVec 6) (g : Word) (s : State) :
    demod c x (s.overlay f g) = ((demod c x s).1, (demod c x s).2.overlay f g) := by
  simp only [demod, overlay_mode]
  cases s.mode
  case cw => exact demodCw_overlay c x f g s
  all_goals rfl

theorem emit_overlay (c : Config) (p : BitVec 16) (n : Nat) (f : BitVec 6) (g : Word) (s : State) :
    emit c p n (s.overlay f g) = (emit c p n s).overlay f g := by
  induction n generalizing s with
  | zero => rfl
  | succ n ih =>
    have hone : emitOne c p (s.overlay f g) = (emitOne c p s).overlay f g := by
      rw [emitOne, emitOne, overlay_workCount]
      by_cases h : s.workCount < c.outCap
      · rw [if_pos h, if_pos h]
        rfl
      · rw [if_neg h, if_neg h]
        exact setFlag_overlay flagOutOvf f g s
    rw [emit, hone, ih, emit]

theorem finalReady_overlay (c : Config) (x : Pair) (f : BitVec 6) (g : Word) (s : State) :
    finalReady c x (s.overlay f g) = (finalReady c x s).overlay f g := by
  have hd : demod c x (ssAccumulate c x (s.overlay f g)) = _ := demod_overlay c x f g (ssAccumulate c x s)
  unfold finalReady
  rw [hd]
  rcases demod c x (ssAccumulate c x s) with ⟨_ | a, s1⟩
  · rfl
  · exact emit_overlay c _ _ f g (agc c a s1).2

theorem afterCascade_overlay (c : Config) (r : Option Pair) (f : BitVec 6) (g : Word) (s : State) :
    afterCascade c r (s.overlay f g) = (afterCascade c r s).overlay f g := by
  cases r with
  | none => rfl
  | some x => exact finalReady_overlay c x f g s

theorem advanceIndex_overlay (c : Config) (f : BitVec 6) (g : Word) (s : State) :
    advanceIndex c (s.overlay f g) = (advanceIndex c s).overlay f g := by
  rw [advanceIndex, advanceIndex, overlay_blkN]
  by_cases h : s.blkN + 1 = c.nBlock
  · rw [if_pos h, if_pos h]
    exact setFlag_overlay flagBlockDone f g { blockEnd c s with status := s.status }
  · rw [if_neg h, if_neg h]
    rfl

/-- The engine step takes the flags and the calibration through unread. -/
theorem engineStep_overlay (c : Config) (d : BitVec 16) (f : BitVec 6) (g : Word) (s : State) :
    engineStep c d (s.overlay f g) = (engineStep c d s).overlay f g := by
  have hin : inputPair c d (s.overlay f g) = inputPair c d s := rfl
  have hphase : (s.overlay f g).ncoPhase = s.ncoPhase := rfl
  simp only [engineStep, hin, hphase, frontEnd_overlay, mainCascade_overlay, afterCascade_overlay, advanceIndex_overlay]

theorem writeMode_overlay (c : Config) (v : Nat) (f : BitVec 6) (g : Word) (s : State) :
    writeMode c v (s.overlay f g) = (writeMode c v s).overlay f g := by
  unfold writeMode
  cases modeOfCode v with
  | none => rfl
  | some m =>
    dsimp only
    rw [selectMode, selectMode, overlay_mode]
    by_cases h : m = s.mode
    · rw [if_pos h, if_pos h]
    · rw [if_neg h, if_neg h]
      cases m <;> rfl

theorem noResponse_overlay (f : BitVec 6) (g : Word) (s : State) :
    (s.overlay f g).noResponse = s.noResponse.overlay f g := rfl

/-- A transaction that is not about the flags or GAIN_CAL takes both through unread: the engine step and the write of MODE commute
with the overlay, and every other meaning does so by its own record update. -/
theorem exec_overlay (i : Instr) (f : BitVec 6) (g : Word) (s : State)
    (hWrStatus : ∀ data, i ≠ .wrStatus data) (hRdStatus : i ≠ .rdStatus)
    (hWrGainCal : ∀ data, i ≠ .wrGainCal data) (hRdGainCal : i ≠ .rdGainCal) :
    ∃ t, exec i s = .next t ∧ exec i (s.overlay f g) = .next (t.overlay f g) := by
  cases i
  case wrStatus data => exact absurd rfl (hWrStatus data)
  case rdStatus => exact absurd rfl hRdStatus
  case wrGainCal data => exact absurd rfl (hWrGainCal data)
  case rdGainCal => exact absurd rfl hRdGainCal
  case pushCode data =>
    refine ⟨_, exec_pushCode data s, ?_⟩
    rw [exec_pushCode, engineStep_overlay, noResponse_overlay]
  case wrMode data =>
    refine ⟨(writeMode Config.chip (formUnsigned32 data) s).noResponse, rfl, ?_⟩
    rw [exec, execWrMode, writeMode_overlay, noResponse_overlay]
  all_goals exact ⟨_, rfl, rfl⟩

/-- Settles O57, by `exec_overlay`. -/
theorem nothingReadsTheFlagsOrTheCalibration : Obligations.NothingReadsTheFlagsOrTheCalibration := by
  unfold Obligations.NothingReadsTheFlagsOrTheCalibration
  intro i s f g hWrStatus hRdStatus hWrGainCal hRdGainCal
  exact exec_overlay i f g s hWrStatus hRdStatus hWrGainCal hRdGainCal

end Sys2Proof.Machine
end

section
/-!
PROOFS. The block index under every interleaving of the masters, and the transactions of the read-only registers.
-/
namespace Sys2Proof.Machine

/-! ### The index along a queue (R51, R110, R212) -/

/-- Below the block length the index an engine step leaves is the next one modulo the block (R212, R215). -/
theorem engineStep_blkN_mod (c : Config) (d : BitVec 16) (s : State) (hidx : s.blkN < c.nBlock) :
    (engineStep c d s).blkN = (s.blkN + 1) % c.nBlock := by
  rw [engineStep_blkN]
  split
  case isTrue hend => rw [hend, Nat.mod_self]
  case isFalse hmore => exact (Nat.mod_eq_of_lt (by omega)).symm

/-- A step takes the head of the queue, and moves the index by one modulo the block exactly when that is a legal PUSH_CODE. -/
theorem step_blkN (s : State) (u : BusTxn) (rest : List BusTxn) (hbus : s.bus = u :: rest)
    (hidx : s.blkN < Config.chip.nBlock) :
    ∃ t, step s = .next t ∧ t.bus = rest ∧
      t.blkN = (s.blkN + if isPush u then 1 else 0) % Config.chip.nBlock := by
  rcases step_cases s with ⟨hnil, -⟩ | ⟨u', rest', i, hbus', hdec, hstep⟩ | ⟨u', rest', e, hbus', hdec, hstep⟩
  · simp [hnil] at hbus
  all_goals
    obtain ⟨rfl, rfl⟩ := List.cons.inj (hbus'.symm.trans hbus)
    rw [hstep]
  · cases hpush : isPush u' with
    | true =>
      obtain ⟨data, hdata⟩ := (isPush_iff u').mp hpush
      obtain rfl : i = .pushCode data := Except.ok.inj (hdec.symm.trans hdata)
      refine ⟨_, exec_pushCode data _, (noResponse_bus _).trans (engineStep_bus _ _ _), ?_⟩
      rw [noResponse_blkN, engineStep_blkN_mod, if_pos rfl]
      exact hidx
    | false =>
      have hkept : s.blkN = (s.blkN + 0) % Config.chip.nBlock := (Nat.mod_eq_of_lt hidx).symm
      rcases exec_cases i { s with bus := rest' } with ⟨data, rfl⟩ | ⟨data, rfl⟩ | ⟨t, ht, hengine, -, hrest⟩
      · exact ⟨_, exec_wrStatus data _, rfl, hkept⟩
      · exact absurd ((isPush_iff u').mpr ⟨data, hdec⟩) (by simp [hpush])
      · exact ⟨t, ht, hrest, hengine.blkN.trans hkept⟩
  · have hno : isPush u' = false := by simp [isPush, hdec]
    refine ⟨_, rfl, by rw [busError_eq], ?_⟩
    rw [busError_eq, hno]
    exact (Nat.mod_eq_of_lt hidx).symm

/-- A run whose first step answers a next state goes on from there. -/
theorem run_succ_of_step (M : Host.Core) (n : Nat) (s t : M.State) (h : M.step s = .next t) :
    M.run (n + 1) s = M.run n t := by
  rw [Host.Core.run, h]

/-- A run over the whole queue takes every transaction, and the index ends at the number of codes in it, modulo the block. -/
theorem run_queue_blkN (q : List BusTxn) (s : State) (hbus : s.bus = q) (hidx : s.blkN < Config.chip.nBlock) :
    ∃ t, Host.Core.run Sys2Proof.core q.length s = .next t ∧ t.bus = [] ∧
      t.blkN = (s.blkN + q.countP isPush) % Config.chip.nBlock := by
  induction q generalizing s with
  | nil => exact ⟨s, rfl, hbus, (Nat.mod_eq_of_lt hidx).symm⟩
  | cons u rest ih =>
    obtain ⟨t, hstep, htbus, htidx⟩ := step_blkN s u rest hbus hidx
    obtain ⟨v, hrun, hvbus, hvidx⟩ := ih t htbus (htidx ▸ Nat.mod_lt _ (by decide))
    refine ⟨v, ?_, hvbus, ?_⟩
    · exact (run_succ_of_step Sys2Proof.core rest.length s t hstep).trans hrun
    · rw [hvidx, htidx, Nat.mod_add_mod, List.countP_cons, Nat.add_assoc, Nat.add_comm (ite _ _ _)]

/-- However the masters are merged, the queue holds as many transactions of a kind as they have between them (R110). -/
theorem interleaves_countP (p : BusTxn → Bool) {ms : List (List BusTxn)} {order : List BusTxn} (h : Interleaves ms order) :
    order.countP p = (ms.map (fun m => m.countP p)).sum := by
  induction h with
  | done ms h =>
    symm
    simp only [List.countP_nil, List.sum_eq_zero_iff, List.forall_mem_map]
    exact fun m hm => by rw [h m hm, List.countP_nil]
  | next before after u m order _ ih =>
    simp only [List.map_append, List.map_cons, List.sum_append, List.sum_cons, List.countP_cons] at ih ⊢
    omega

/-- Settles O23, by induction on the queue; the order of the masters only decides the order of the codes, not their number. -/
theorem blockIndexIgnoresTheInterleaving : Obligations.BlockIndexIgnoresTheInterleaving := by
  unfold Obligations.BlockIndexIgnoresTheInterleaving
  intro ms order s hmerge hbus hidx
  rw [← interleaves_countP isPush hmerge]
  exact run_queue_blkN order s hbus hidx

/-! ### The read-only registers -/

/-- A header that no row of the opcode map hits decodes to no transaction, whatever the data word (R142). -/
theorem decode_noRow (h data : Word) (hrow : (opRows.all fun r => !r.hit h) = true) : ∃ e, decode ⟨h, data⟩ = .error e := by
  have hfind : opRows.find? (fun r => r.hit h) = none := by simpa using hrow
  unfold decode decodeIn
  dsimp only
  rw [hfind]
  split
  · exact ⟨_, rfl⟩
  · split <;> exact ⟨_, rfl⟩

/-- A 32-bit field is its own response (R145). -/
theorem rdataUnsigned_word (v : Word) : rdataUnsigned v = v := BitVec.setWidth_eq v

/-- The response of an 11-bit count, zero-extended (R145). -/
theorem rdataUnsigned_count (v : BitVec 11) : rdataUnsigned v = 0#21 ++ v :=
  BitVec.setWidth_eq_append (v := 11) (w := 32) (by decide)

/-- Settles O18: the reads by their record updates, the eight write headers because no row of the opcode map hits them. -/
theorem readOnlyRegistersAreReadAndNotWritten : Obligations.ReadOnlyRegistersAreReadAndNotWritten := by
  unfold Obligations.ReadOnlyRegistersAreReadAndNotWritten
  refine ⟨fun s => ⟨?freqWord, ?sidetoneInc, rfl, ?outCount, rfl, rfl, rfl, rfl⟩, fun data => ?noRow⟩
  case freqWord => rw [exec, execRdFreqWord, rdataUnsigned_word, State.respond]
  case sidetoneInc => rw [exec, execRdSidetoneInc, rdataUnsigned_word, State.respond]
  case outCount => rw [exec, execRdOutCount, rdataUnsigned_count, State.respond]
  case noRow =>
    refine fun h hh => decode_noRow h data (List.all_eq_true (p := fun h => opRows.all fun r => !r.hit h) |>.mp ?_ h hh)
    decide

end Sys2Proof.Machine
end

section
/-!
PROOFS. The ranges of 10_state.md: each operation of the datapath keeps the range of the state it moves, in every well-formed
configuration; from these, every step keeps `State.Inv`.
-/
namespace Sys2Proof.Machine

/-! ### The CIC (R42, R43) -/

/-- A CIC instance in its ranges: a counter below the factor and registers of `w` bits. -/
abbrev Cic.InRange (w r : Nat) (C : Cic) : Prop := C.cnt < r ∧ C.laneI.Narrow w ∧ C.laneQ.Narrow w

theorem reg64_lt (w : Nat) (v : Int) (hw : w ≤ 64) : (reg64 w v).toNat < 2 ^ w :=
  reg64_toNat w v hw ▸ umod_lt w v

theorem integrate_narrow (w : Nat) (x : Sample) (l : CicLane) (hw : w ≤ 64) (h : l.Narrow w) :
    (integrate w x l).Narrow w := by
  obtain ⟨-, -, -, -, hdelays⟩ := h
  exact ⟨reg64_lt w _ hw, reg64_lt w _ hw, reg64_lt w _ hw, reg64_lt w _ hw, hdelays⟩

theorem comb_narrow (w : Nat) (l : CicLane) (hw : w ≤ 64) (h : l.Narrow w) : (comb w l).2.Narrow w := by
  obtain ⟨h1, h2, h3, h4, -⟩ := h
  exact ⟨h1, h2, h3, h4, h4, reg64_lt w _ hw, reg64_lt w _ hw, reg64_lt w _ hw⟩

/-- A CIC call keeps the counter below the factor and every register in its width (R280 to R283). -/
theorem cicStep_inRange (w r sh : Nat) (x : Pair) (C : Cic) (hw : w ≤ 64) (h : C.InRange w r) :
    (cicStep w r sh x C).cic.InRange w r := by
  obtain ⟨hold, hlaneI, hlaneQ⟩ := h
  have hi := integrate_narrow w x.i C.laneI hw hlaneI
  have hq := integrate_narrow w x.q C.laneQ hw hlaneQ
  rcases cicStep_cases w r sh x C with ⟨hcnt, hstep⟩ | ⟨-, y, b, hstep⟩ <;> rw [hstep]
  · exact ⟨hcnt, hi, hq⟩
  · exact ⟨Nat.zero_lt_of_lt hold, comb_narrow w _ hw hi, comb_narrow w _ hw hq⟩

theorem Cic.zero_inRange (w r : Nat) (hr : 0 < r) : Cic.zero.InRange w r := by
  have hlane : CicLane.zero.Narrow w := by simp [CicLane.zero]
  exact ⟨hr, hlane, hlane⟩

theorem mainCall_inRange (c : Config) (x : Pair) (s : State) (hw : c.wCic ≤ 64) (h : s.cicMain.InRange c.wCic c.rMain) :
    (mainCall c x s).cic.InRange c.wCic c.rMain := by
  rw [mainCall, halfbands_cic]
  exact cicStep_inRange _ _ _ x _ hw h

theorem cwCall_inRange (c : Config) (x : Pair) (s : State) (hw : c.wCic ≤ 64) (h : s.cicCw.InRange c.wCic c.rCw) :
    (cwCall c x s).cic.InRange c.wCic c.rCw := by
  rw [cwCall, halfbands_cic]
  exact cicStep_inRange _ _ _ x _ hw h

/-! ### The AM tracker (R45, R333) and the AGC peak (R49, R381) -/

/-- The leak of the tracker is at least what a magnitude above the estimate could push it past its bound. -/
theorem sub_asr_le (a M : Int) (k : Nat) (h : a ≤ M * 2 ^ k) : a - asr a k ≤ M * 2 ^ k - M := by
  have hpow : (1 : Int) ≤ 2 ^ k := pow2_pos k
  have hquot : a - (M * 2 ^ k - M) ≤ a / 2 ^ k := Int.le_ediv_of_mul_le (pow2_pos k) (by nlinarith)
  unfold asr
  omega

/-- The tracker stays in [0, 65535 * 2^K_AM], and its 32-bit register holds it (R333). -/
theorem demodAm_amAcc_bounds (c : Config) (x : Pair) (s : State) (hk : c.kAm ≤ 15)
    (h : 0 ≤ s.amAcc.toInt ∧ s.amAcc.toInt ≤ 65535 * 2 ^ c.kAm) :
    0 ≤ (demodAm c x s).2.amAcc.toInt ∧ (demodAm c x s).2.amAcc.toInt ≤ 65535 * 2 ^ c.kAm := by
  obtain ⟨hlo, hhi⟩ := h
  have hmag := (c.mag x.i x.q).isLt
  have hpow : (2 : Int) ^ c.kAm ≤ 2 ^ 15 := pow_le_pow_right₀ (by decide) hk
  have hleak := sub_asr_le s.amAcc.toInt 65535 c.kAm hhi
  have hasr := asr_bounds s.amAcc.toInt c.kAm hlo
  have hacc : (demodAm c x s).2.amAcc.toInt = s.amAcc.toInt + (c.mag x.i x.q).toNat - asr s.amAcc.toInt c.kAm :=
    toInt_ofInt32 _ (by omega)
  omega

/-- The detector input lies in [0, 32768 * 2^E] (R381). -/
theorem agcInput_bounds (c : Config) (x : Sample) : 0 ≤ agcInput c x ∧ agcInput c x ≤ 32768 * 2 ^ c.agcExtra := by
  have hx := sample_natAbs x
  have hpow := pow2_pos c.agcExtra
  unfold agcInput
  exact ⟨by positivity, by gcongr; exact_mod_cast hx⟩

/-- Each phase of the detector keeps the peak in [0, 32768 * 2^E], and its 64-bit register holds it (R382 to R385). -/
theorem agcDetect_hold_bounds (c : Config) (p : AgcPreset) (x : Sample) (d : Detector) (he : c.agcExtra ≤ 31)
    (h : 0 ≤ d.hold.toInt ∧ d.hold.toInt ≤ 32768 * 2 ^ c.agcExtra) :
    0 ≤ (agcDetect c p x d).hold.toInt ∧ (agcDetect c p x d).hold.toInt ≤ 32768 * 2 ^ c.agcExtra := by
  obtain ⟨hlo, hhi⟩ := h
  have hin := agcInput_bounds c x
  have hpow : (2 : Int) ^ c.agcExtra ≤ 2 ^ 31 := pow_le_pow_right₀ (by decide) he
  unfold agcDetect
  split
  case isTrue hattack =>
    have hasr := asr_bounds (agcInput c x - d.hold.toInt) p.att (by omega)
    have hhold : (agcAttack (agcInput c x) p d).hold.toInt = d.hold.toInt + asr (agcInput c x - d.hold.toInt) p.att :=
      toInt_ofInt64 _ (by omega)
    omega
  case isFalse =>
    split
    · exact ⟨hlo, hhi⟩
    · have hasr := asr_bounds d.hold.toInt p.dec hlo
      have hhold : (agcDecay p d).hold.toInt = d.hold.toInt - asr d.hold.toInt p.dec := toInt_ofInt64 _ (by omega)
      omega

/-! ### The stages of a final-ready sample (R207 to R211) -/

/-- The ranges of the state a final-ready sample moves: the CW path's CIC, the AM tracker, the AGC peak, the working buffer. -/
abbrev State.AudioRanges (c : Config) (s : State) : Prop :=
  s.cicCw.InRange c.wCic c.rCw ∧
  (0 ≤ s.amAcc.toInt ∧ s.amAcc.toInt ≤ 65535 * 2 ^ c.kAm) ∧
  (0 ≤ s.agcMaxHold.toInt ∧ s.agcMaxHold.toInt ≤ 32768 * 2 ^ c.agcExtra) ∧
  s.workCount ≤ c.outCap ∧ s.workBuf.length = c.outCap

section
variable (c : Config) (hwf : c.Wf) (s : State) (h : s.AudioRanges c)
include hwf h

theorem demod_audioRanges (x : Pair) : (demod c x s).2.AudioRanges c := by
  obtain ⟨-, -, -, -, ⟨-, -, hcic⟩, -, -, -, ⟨-, hk⟩, -⟩ := hwf
  obtain ⟨hcw, ham, hrest⟩ := h
  rcases demod_cases c x s with ⟨-, hd⟩ | ⟨-, hd⟩ | ⟨-, hd⟩ | ⟨-, hd⟩ | ⟨-, hd⟩ <;> rw [hd]
  · exact ⟨hcw, demodAm_amAcc_bounds c x s hk ham, hrest⟩
  · exact ⟨hcw, ham, hrest⟩
  · exact ⟨hcw, ham, hrest⟩
  · exact ⟨hcw, ham, hrest⟩
  · rw [demodCw_eq]
    exact ⟨cwCall_inRange c x s hcic hcw, ham, hrest⟩

theorem audioStages_audioRanges (a : Sample) : (audioStages c a s).AudioRanges c := by
  obtain ⟨-, -, -, -, -, -, ⟨-, -, he, -⟩, -⟩ := hwf
  obtain ⟨hcw, ham, hhold, hcount, hbuf⟩ := h
  have hcount' : (audioStages c a s).workCount ≤ c.outCap := by
    rw [audioStages, emit_workCount]
    · exact min_le_right _ _
    · exact hcount
  have hlength : (audioStages c a s).workBuf.length = c.outCap := by
    rw [audioStages, emit_length]
    exact hbuf
  rw [audioStages_frame]
  exact ⟨hcw, ham, agcDetect_hold_bounds c _ a _ he hhold, hcount', hlength⟩

theorem afterCascade_audioRanges (r : Option Pair) : (afterCascade c r s).AudioRanges c := by
  cases r with
  | none => exact h
  | some x =>
    have hd := demod_audioRanges c hwf (ssAccumulate c x s) h x
    rw [afterCascade, finalReady]
    generalize demod c x (ssAccumulate c x s) = r at hd
    rcases r with ⟨_ | a, s1⟩
    · exact hd
    · exact audioStages_audioRanges c hwf s1 hd a

theorem beforeIndex_audioRanges (d : BitVec 16) : (beforeIndex c d s).AudioRanges c := by
  refine afterCascade_audioRanges c hwf _ ?_ _
  rw [mainCascade_eq, frontEnd_eq, capturePublish_eq, captureWrite_eq]
  exact h

end

/-! ### The machine's state between transactions -/

/-- The state with every part of it at 0 or empty that 10_state.md gives no range. -/
def State.ranged (s : State) : State :=
  { s with
    ncoPhase := 0, hb1Main := 0, hb2Main := 0, hb1Cw := 0, hb2Cw := 0, fmLast := 0, ssbIdx := 0, ssbFilt := 0, cwMag := 0
    stPhase := 0, agcHang := 0, status := 0, mode := .am, bandwidth := 0, agcSpeed := 0, gainCal := 0, volume := 0
    squelch := 0, iqSwap := 0, pwmMax := 0, signalStrength := 0, capSeq := 0, blkSeq := 0, perfDraws := 0, rdata := none
    bus := [] }

/-- The ranges speak of the parts that have one alone. -/
theorem State.Inv.of_ranged_eq {s t : State} (h : s.Inv) (heq : t.ranged = s.ranged) : t.Inv := by
  have hs : s.ranged.Inv := { h with }
  rw [← heq] at hs
  exact { hs with }

theorem State.Inv.audioRanges {s : State} (h : s.Inv) : s.AudioRanges Config.chip :=
  ⟨⟨h.cntCw, h.narrowCw⟩, h.amAcc, h.hold, h.workCount, h.workBuf⟩

/-- The magnitude sum of a step in the middle of a block: at most 65535 for each code so far, this one included (R50, R208). -/
theorem beforeIndex_magSum_le (d : BitVec 16) (s : State) (h : s.Inv) :
    (beforeIndex Config.chip d s).magSum.toNat ≤ 65535 * (s.blkN + 1) := by
  have hsum := h.magSum
  have hidx := h.blkN
  rw [beforeIndex_frame]
  cases (mainCall Config.chip (mixed Config.chip d s) s).out with
  | none => exact hsum.trans (by omega)
  | some x =>
    have hmag := (Config.chip.mag x.i x.q).isLt
    simp only [BitVec.toNat_add, BitVec.toNat_setWidth]
    omega

/-- The capture write keeps the lengths of the shadow buffers (R204). -/
theorem captureWrite_length (c : Config) (x : Pair) (s : State) :
    (captureWrite c x s).capShI.length = s.capShI.length ∧ (captureWrite c x s).capShQ.length = s.capShQ.length := by
  rw [captureWrite_eq]
  constructor <;> dsimp only <;> split <;> simp

/-- The windows have the length of the shadow buffers, published anew or not (R205). -/
theorem capture_published_length (c : Config) (x : Pair) (s : State) (n : Nat)
    (hshadow : s.capShI.length = n ∧ s.capShQ.length = n) (hwindow : s.capI.length = n ∧ s.capQ.length = n) :
    (capturePublish c (captureWrite c x s)).capI.length = n ∧ (capturePublish c (captureWrite c x s)).capQ.length = n := by
  obtain ⟨hI, hQ⟩ := captureWrite_length c x s
  have hkept : (captureWrite c x s).capI = s.capI ∧ (captureWrite c x s).capQ = s.capQ := by
    rw [captureWrite_eq]
    exact ⟨rfl, rfl⟩
  rw [capturePublish_eq]
  dsimp only
  split
  · exact ⟨hI.trans hshadow.1, hQ.trans hshadow.2⟩
  · rw [hkept.1, hkept.2]
    exact hwindow

/-- Before the index advances, an engine step has kept every range but that of the magnitude sum. -/
theorem beforeIndex_inv (d : BitVec 16) (s : State) (h : s.Inv) :
    State.Inv { beforeIndex Config.chip d s with magSum := 0 } := by
  obtain ⟨⟨hcntCw, hnarrowCw⟩, hamAcc, hhold, hcount, hbuf⟩ :=
    beforeIndex_audioRanges Config.chip chip_wf s h.audioRanges d
  obtain ⟨hcntMain, hnarrowMain⟩ := mainCall_inRange Config.chip (mixed Config.chip d s) s (by decide)
    ⟨h.cntMain, h.narrowMain⟩
  obtain ⟨hshadowI, hshadowQ⟩ := captureWrite_length Config.chip (inputPair Config.chip d s) s
  obtain ⟨hpubI, hpubQ⟩ := capture_published_length Config.chip (inputPair Config.chip d s) s 256
    ⟨h.capShI, h.capShQ⟩ ⟨h.capI, h.capQ⟩
  rw [beforeIndex_frame]
  exact { h with
    cntMain := hcntMain
    narrowMain := hnarrowMain
    cntCw := hcntCw
    narrowCw := hnarrowCw
    amAcc := hamAcc
    hold := hhold
    workCount := hcount
    workBuf := hbuf
    magSum := Nat.zero_le _
    capShI := hshadowI.trans h.capShI
    capShQ := hshadowQ.trans h.capShQ
    capI := hpubI
    capQ := hpubQ }

/-- Past the count published, an audio block of `n` entries and zero fill reads 0 (R214, R75). -/
theorem entry_zeroFill {w : Nat} (b : List (BitVec w)) (n m k : Nat) (hk : n ≤ k) :
    entry (b.take n ++ List.replicate m 0) k = 0 := by
  have hpast : (b.take n).length ≤ k := (List.length_take_le n b).trans hk
  rw [entry, List.getD_eq_getElem?_getD, List.getElem?_append_right hpast, List.getElem?_replicate]
  split <;> rfl

/-- The index advance keeps the ranges: within a block the sum's bound grows with the index, and a block end clears sum, count and
index, and publishes a count and a window in their ranges (R212 to R215). -/
theorem advanceIndex_inv (s : State) (h : State.Inv { s with magSum := 0 }) (hsum : s.magSum.toNat ≤ 65535 * (s.blkN + 1)) :
    (advanceIndex Config.chip s).Inv := by
  have hidx : s.blkN < 4000 := h.blkN
  have hcount : s.workCount ≤ 404 := h.workCount
  unfold advanceIndex
  split
  case isFalse hmore =>
    have hmore' : s.blkN + 1 ≠ 4000 := hmore
    exact { h with blkN := (by omega : s.blkN + 1 < 4000), magSum := hsum }
  case isTrue =>
    have hout : (BitVec.ofNat 11 s.workCount).toNat = s.workCount := by
      rw [BitVec.toNat_ofNat]
      omega
    have hlength : (s.workBuf.take s.workCount ++ List.replicate (404 - s.workCount) 0).length = 404 := by
      have hbuf : s.workBuf.length = 404 := h.workBuf
      simp [hbuf]
      omega
    rw [blockEnd_eq]
    exact { h with
      blkN := (by decide : 0 < 4000)
      magSum := Nat.zero_le _
      workCount := Nat.zero_le _
      outCount := hout.trans_le hcount
      audioOut := hlength
      audioZero := fun k hk => entry_zeroFill s.workBuf s.workCount _ k (hout ▸ hk) }

/-- An engine step keeps the ranges (R200). -/
theorem engineStep_inv (d : BitVec 16) (s : State) (h : s.Inv) : (engineStep Config.chip d s).Inv := by
  have hidx : (beforeIndex Config.chip d s).blkN = s.blkN := by rw [beforeIndex_frame]
  rw [engineStep_eq]
  exact advanceIndex_inv _ (beforeIndex_inv d s h) (hidx ▸ beforeIndex_magSum_le d s h)

/-! ### The settings (R55, R56, R60, R61) and the steps -/

/-- A tuning write stores a legal offset and its frequency word (R412). -/
theorem tune_inv (v : Int) (s : State) (h : s.Inv) : (tune Config.chip v s).Inv := by
  have hclamp : -250000 ≤ clampOffset Config.chip v ∧ clampOffset Config.chip v ≤ 250000 := by
    have hhalf : Config.chip.fS / 2 = 250000 := rfl
    rw [clampOffset, hhalf, clamp]
    omega
  have hstore : (BitVec.ofInt 32 (clampOffset Config.chip v)).toInt = clampOffset Config.chip v :=
    toInt_ofInt32 _ (by omega)
  exact { h with offset := hstore.symm ▸ hclamp, word := congrArg (freqWordOf Config.chip) hstore.symm }

/-- A sidetone write stores a legal frequency and its increment (R421). -/
theorem setSidetone_inv (v : Nat) (s : State) (h : s.Inv) : (setSidetone Config.chip v s).Inv := by
  have hclamp : clampSidetone Config.chip v ≤ 6250 := min_le_right _ _
  have hstore : (BitVec.ofNat 32 (clampSidetone Config.chip v)).toNat = clampSidetone Config.chip v := by
    rw [BitVec.toNat_ofNat]
    omega
  exact { h with sidetone := hstore.trans_le hclamp, increment := congrArg (sidetoneIncOf Config.chip) hstore.symm }

/-- A mode entered starts in the ranges (R345). -/
theorem modeEnter_inv (m : Mode) (s : State) (h : s.Inv) : (modeEnter Config.chip m s).Inv := by
  cases m
  case am => exact { h with amAcc := (by decide : 0 ≤ (0#32).toInt ∧ (0#32).toInt ≤ 65535 * 2 ^ 5) }
  case cw =>
    obtain ⟨hcnt, hnarrow⟩ := Cic.zero_inRange 32 10 (by decide)
    exact { h with cntCw := hcnt, narrowCw := hnarrow }
  all_goals exact h.of_ranged_eq rfl

theorem writeMode_inv (v : Nat) (s : State) (h : s.Inv) : (writeMode Config.chip v s).Inv := by
  rcases writeMode_cases Config.chip v s with hw | ⟨m, hw⟩ <;> rw [hw]
  · exact h
  · exact modeEnter_inv m _ (h.of_ranged_eq rfl)

theorem noResponse_inv (s : State) (h : s.Inv) : s.noResponse.Inv := h.of_ranged_eq rfl

/-- Every transaction keeps the ranges. -/
theorem exec_inv (i : Instr) (s : State) (h : s.Inv) : ∃ t, exec i s = .next t ∧ t.Inv := by
  cases i
  case pushCode data => exact ⟨_, rfl, noResponse_inv _ (engineStep_inv (formCode data) s h)⟩
  case wrFreqOffset data => exact ⟨_, rfl, noResponse_inv _ (tune_inv (formSigned32 data) s h)⟩
  case wrCwSidetone data => exact ⟨_, rfl, noResponse_inv _ (setSidetone_inv (formUnsigned32 data) s h)⟩
  case wrMode data => exact ⟨_, rfl, noResponse_inv _ (writeMode_inv (formUnsigned32 data) s h)⟩
  all_goals exact ⟨_, rfl, h.of_ranged_eq rfl⟩

/-- Settles O52, with `State.Inv` itself as the invariant: the transaction taken keeps it, by `exec_inv`, and the queue, the flags
and the response have no range. -/
theorem everyStepKeepsTheStateRanges : Obligations.EveryStepKeepsTheStateRanges := by
  unfold Obligations.EveryStepKeepsTheStateRanges
  intro s t h hnext
  rcases step_cases s with ⟨-, hstep⟩ | ⟨u, rest, i, -, -, hstep⟩ | ⟨u, rest, e, -, -, hstep⟩ <;>
    rw [hstep] at hnext
  · cases hnext
    exact h
  · obtain ⟨t', ht, hinv⟩ := exec_inv i { s with bus := rest } (h.of_ranged_eq rfl)
    cases ht.symm.trans hnext
    exact hinv
  · cases hnext
    exact h.of_ranged_eq (by rw [busError_eq]; rfl)

end Sys2Proof.Machine
end

section
/-!
PROOFS. The look-up tables (R250 to R252): the symmetries give every entry from the first quarter, where the inequalities are
checked entry by entry, and a quarter turn carries them round the circle.
-/
namespace Sys2Proof.Machine

/-! ### The entries by quarters (R250) -/

/-- Entry `k` of the first quarter of the machine's SIN_LUT. -/
def quarterSin (k : Nat) : Int := Config.chip.lutQuarter k

theorem sinLut_firstQuarter (k : Nat) (h : k ≤ 256) : sinLut Config.chip k = quarterSin k :=
  have hhalf : k < Config.chip.lutSize / 2 := lt_of_le_of_lt h (by decide)
  have hquarter : k ≤ Config.chip.lutSize / 4 := h
  (if_pos hhalf).trans (if_pos hquarter)

theorem sinLut_secondQuarter (k : Nat) (hlo : 256 ≤ k) (hhi : k < 512) : sinLut Config.chip k = quarterSin (512 - k) := by
  rcases hlo.eq_or_lt with rfl | hlt
  · exact sinLut_firstQuarter 256 le_rfl
  · have hhalf : k < Config.chip.lutSize / 2 := hhi
    have hquarter : ¬ k ≤ Config.chip.lutSize / 4 := hlt.not_ge
    exact (if_pos hhalf).trans (if_neg hquarter)

theorem sinLut_secondHalf (k : Nat) (hlo : 512 ≤ k) (hhi : k < 1024) :
    sinLut Config.chip k = -sinLut Config.chip (k - 512) :=
  have hhalf : ¬ k < Config.chip.lutSize / 2 := hlo.not_gt
  have hback : k - 512 < Config.chip.lutSize / 2 := (by omega : k - 512 < 512)
  (if_neg hhalf).trans (congrArg Neg.neg (if_pos hback).symm)

/-- COS_LUT is SIN_LUT a quarter wave on (R251). -/
theorem cosLut_eq_sinLut (k : Nat) : cosLut Config.chip k = sinLut Config.chip ((k + 256) % 1024) := rfl

/-! ### The wave over all indexes -/

/-- SIN_LUT continued with its period of 1024 entries. -/
def sinWave (k : Nat) : Int := sinLut Config.chip (k % 1024)

theorem sinWave_of_lt (k : Nat) (h : k < 1024) : sinWave k = sinLut Config.chip k :=
  congrArg (sinLut Config.chip) (Nat.mod_eq_of_lt h)

/-- Half a turn changes the sign. -/
theorem sinWave_halfTurn (k : Nat) : sinWave (k + 512) = -sinWave k := by
  have hlt : k % 1024 < 1024 := Nat.mod_lt k (by decide)
  rcases lt_or_ge (k % 1024) 512 with hlo | hhi
  · have hidx : (k + 512) % 1024 = k % 1024 + 512 := by omega
    calc sinWave (k + 512) = sinLut Config.chip (k % 1024 + 512) := congrArg (sinLut Config.chip) hidx
      _ = -sinLut Config.chip (k % 1024 + 512 - 512) := sinLut_secondHalf _ (by omega) (by omega)
      _ = -sinWave k := congrArg (fun j => -sinLut Config.chip j) (Nat.add_sub_cancel _ _)
  · have hidx : (k + 512) % 1024 = k % 1024 - 512 := by omega
    calc sinWave (k + 512) = sinLut Config.chip (k % 1024 - 512) := congrArg (sinLut Config.chip) hidx
      _ = -(-sinLut Config.chip (k % 1024 - 512)) := (neg_neg _).symm
      _ = -sinWave k := congrArg Neg.neg (sinLut_secondHalf (k % 1024) hhi hlt).symm

/-- At index `k` the pair of sine and cosine lies on the circle of the amplitude, and the pair after it is this pair turned by the
angle of one index, whose cosine and sine are 32766 and 201, within the rounding of the entries. -/
def TurnsAt (k : Nat) : Prop :=
  |sinWave k ^ 2 + sinWave (k + 256) ^ 2 - 32767 ^ 2| ≤ 46341 ∧
  |32767 * sinWave (k + 1) - (sinWave k * 32766 + sinWave (k + 256) * 201)| ≤ 2 * 32767 ∧
  |32767 * sinWave (k + 257) - (sinWave (k + 256) * 32766 - sinWave k * 201)| ≤ 2 * 32767

/-- A quarter turn takes the sine to the cosine and the cosine to the negated sine, so it keeps the three facts. -/
theorem TurnsAt.quarterTurn {k : Nat} (h : TurnsAt k) : TurnsAt (k + 256) := by
  have h0 : sinWave (k + 256 + 256) = -sinWave k := sinWave_halfTurn k
  have h1 : sinWave (k + 256 + 257) = -sinWave (k + 1) := sinWave_halfTurn (k + 1)
  have h2 : sinWave (k + 256 + 1) = sinWave (k + 257) := rfl
  obtain ⟨hcircle, hsin, hcos⟩ := h
  refine ⟨?circle, ?sinTurn, ?cosTurn⟩ <;> rw [h0]
  case circle =>
    rw [neg_sq, add_comm (sinWave (k + 256) ^ 2)]
    exact hcircle
  case sinTurn =>
    rw [h2, neg_mul, ← sub_eq_add_neg]
    exact hcos
  case cosTurn =>
    rw [h1, ← abs_neg]
    convert hsin using 2
    ring

/-- The check of an entry `s` of the first quarter and the one after it `s'`, with the cosines `c` and `c'` at their indexes, in
natural numbers: the sine does not fall, and the pair has the circle and both turns. -/
abbrev QuarterEntry (s s' c c' : Nat) : Prop :=
  s ≤ s' ∧
  (32767 ^ 2 ≤ s ^ 2 + c ^ 2 + 46341 ∧ s ^ 2 + c ^ 2 ≤ 32767 ^ 2 + 46341) ∧
  (s * 32766 + c * 201 ≤ 32767 * s' + 2 * 32767 ∧ 32767 * s' ≤ s * 32766 + c * 201 + 2 * 32767) ∧
  (c * 32766 ≤ 32767 * c' + s * 201 + 2 * 32767 ∧ 32767 * c' + s * 201 ≤ c * 32766 + 2 * 32767)

/-- The first quarter read forwards is its sine, read backwards its cosine: every entry of both, with its successor. -/
def quarterEntries : List ((Nat × Nat) × Nat × Nat) :=
  (sinQuarterRef.zip sinQuarterRef.tail).zip (sinQuarterRef.reverse.zip sinQuarterRef.reverse.tail)

/-- The table of R250 passes the check, 64 entries at a time. -/
theorem quarterEntries_checked :
    ∀ i < 4, ∀ e ∈ (quarterEntries.drop (64 * i)).take 64, QuarterEntry e.1.1 e.1.2 e.2.1 e.2.2 := by
  decide

theorem sinQuarterRef_length : sinQuarterRef.length = 257 := by
  simp only [sinQuarterRef, List.length_append]
  rfl

/-- An entry of the machine's quarter wave is that of the list it is read from (entry 19). -/
theorem quarterSin_eq_getElem (k : Nat) (h : k < sinQuarterRef.length) : quarterSin k = sinQuarterRef[k] := by
  have hread : quarterSin k = (sinQuarterRef.getD k 0 : Nat) := rfl
  rw [hread, List.getD_eq_getElem _ _ h]

/-- The check by index, as statements about integers. -/
theorem quarterSin_checked (k : Nat) (h : k < 256) : quarterSin k ≤ quarterSin (k + 1) ∧
    |quarterSin k ^ 2 + quarterSin (256 - k) ^ 2 - 32767 ^ 2| ≤ 46341 ∧
    |32767 * quarterSin (k + 1) - (quarterSin k * 32766 + quarterSin (256 - k) * 201)| ≤ 2 * 32767 ∧
    |32767 * quarterSin (256 - (k + 1)) - (quarterSin (256 - k) * 32766 - quarterSin k * 201)| ≤ 2 * 32767 := by
  have hlen := sinQuarterRef_length
  have hs : k < sinQuarterRef.length := by omega
  have hs' : k + 1 < sinQuarterRef.length := by omega
  have hc : 256 - k < sinQuarterRef.length := by omega
  have hc' : 256 - (k + 1) < sinQuarterRef.length := by omega
  have hmem : ((sinQuarterRef[k], sinQuarterRef[k + 1]), sinQuarterRef[256 - k], sinQuarterRef[256 - (k + 1)]) ∈
      (quarterEntries.drop (64 * (k / 64))).take 64 := by
    refine List.mem_of_getElem (i := k % 64) (h := ?_) ?_
    · simp only [quarterEntries, List.length_take, List.length_drop, List.length_zip, List.length_tail,
        List.length_reverse, hlen]
      omega
    · simp only [quarterEntries, List.getElem_take, List.getElem_drop, Nat.div_add_mod, List.getElem_zip,
        List.getElem_tail, List.getElem_reverse, hlen]
  rw [quarterSin_eq_getElem k hs, quarterSin_eq_getElem _ hs', quarterSin_eq_getElem _ hc, quarterSin_eq_getElem _ hc']
  obtain ⟨hmono, hcircle, hsin, hcos⟩ := quarterEntries_checked (k / 64) (by omega) _ hmem
  zify at hmono hcircle hsin hcos
  refine ⟨hmono, ?_, ?_, ?_⟩ <;> rw [abs_le] <;> constructor <;> linarith

/-- The sine over the first quarter, both ends included. -/
theorem sinWave_firstQuarter (k : Nat) (h : k ≤ 256) : sinWave k = quarterSin k := by
  rw [sinWave_of_lt k (by omega), sinLut_firstQuarter k h]

/-- The cosine over the first quarter, both ends included: the sine read backwards. -/
theorem sinWave_add_quarter (k : Nat) (h : k ≤ 256) : sinWave (k + 256) = quarterSin (256 - k) := by
  rcases h.eq_or_lt with rfl | hlt
  · calc sinWave 512 = -sinWave 0 := sinWave_halfTurn 0
      _ = quarterSin 0 := by decide
  · have hidx : 512 - (k + 256) = 256 - k := by omega
    rw [sinWave_of_lt _ (by omega), sinLut_secondQuarter _ (by omega) (by omega), hidx]

theorem turnsAt_firstQuarter (k : Nat) (h : k < 256) : TurnsAt k := by
  obtain ⟨-, hcircle, hsin, hcos⟩ := quarterSin_checked k h
  have hcosNext : sinWave (k + 257) = quarterSin (256 - (k + 1)) := sinWave_add_quarter (k + 1) h
  refine ⟨?circle, ?sinTurn, ?cosTurn⟩ <;> rw [sinWave_firstQuarter k h.le, sinWave_add_quarter k h.le]
  case circle => exact hcircle
  case sinTurn =>
    rw [sinWave_firstQuarter (k + 1) h]
    exact hsin
  case cosTurn =>
    rw [hcosNext]
    exact hcos

/-- The three facts hold at every index, by quarter turns from the first quarter. -/
theorem turnsAt (k : Nat) : TurnsAt k := by
  induction k using Nat.strong_induction_on with
  | _ k ih =>
    rcases lt_or_ge k 256 with hlt | hge
    · exact turnsAt_firstQuarter k hlt
    · have hprev := ih (k - 256) (by omega)
      exact Nat.sub_add_cancel hge ▸ hprev.quarterTurn

/-! ### The index of a phase (R252) -/

theorem lutIndex_chip (ph : BitVec 32) : lutIndex Config.chip ph = ph.toNat / 2 ^ 22 :=
  Int.toNat_natCast (ph.toNat / 2 ^ 22)

/-- Settles O60: the symmetries by the equations of the quarters, the circle and the turn by `turnsAt`. -/
theorem lookUpTablesAreOneSineWave : Obligations.LookUpTablesAreOneSineWave := by
  unfold Obligations.LookUpTablesAreOneSineWave
  refine ⟨fun k hk => ?_, by decide, by decide, fun ph => ?_⟩
  · dsimp only
    obtain ⟨hcircle, hturn, -⟩ := turnsAt k
    refine ⟨cosLut_eq_sinLut k, fun hlo hhi => ?_, fun hlo => sinLut_secondHalf k hlo hk, fun hlt => ?_, ?_, ?_⟩
    · rw [sinLut_secondQuarter k hlo.le hhi, sinLut_firstQuarter _ (by omega)]
    · rw [sinLut_firstQuarter k hlt.le, sinLut_firstQuarter _ hlt]
      exact (quarterSin_checked k hlt).1
    · rw [cosLut_eq_sinLut, ← sinWave_of_lt k hk]
      exact hcircle
    · rw [cosLut_eq_sinLut, ← sinWave_of_lt k hk]
      exact hturn
  · rw [lutIndex_chip]
    exact ⟨rfl, by have := ph.isLt; omega⟩

end Sys2Proof.Machine
end

section
/-!
PROOFS. Steps along the queue: the three ways of a step as equations, what a transaction delivered later cannot change, and what a
transaction does when it is performed twice.
-/
namespace Sys2Proof.Machine

/-! ### A step by the head of its queue (R105, R109, R142, R147, R480) -/

/-- Without a transaction the core is idle (R480). -/
theorem step_of_idle {s : State} (hbus : s.bus = []) : step s = .next s := by
  rcases step_cases s with ⟨-, hstep⟩ | ⟨u, rest, i, hbus', -⟩ | ⟨u, rest, e, hbus', -⟩
  · exact hstep
  all_goals cases hbus.symm.trans hbus'

/-- A step performs the head of the queue, on the state without it (R105, R109). -/
theorem step_of_head {s : State} {u : BusTxn} {rest : List BusTxn} (hbus : s.bus = u :: rest) :
    step s = perform u { s with bus := rest } := by
  have htake : s.takeTxn = some (u, { s with bus := rest }) := (takeTxn_some s _ u).mpr ⟨rest, hbus, rfl⟩
  rw [step, if_pos chip_wf, htake]

/-- A legal transaction runs its meaning (R142). -/
theorem perform_legal {u : BusTxn} {i : Instr} (s : State) (hdec : decode u = .ok i) : perform u s = exec i s := by
  rw [perform, hdec]

/-- An illegal transaction raises BusError (R147). -/
theorem perform_illegal {u : BusTxn} {e : Illegal} (s : State) (hdec : decode u = .error e) :
    perform u s = .next (busError u.header s) := by
  rw [perform, hdec]

/-- Settles O2: by the equations of a step. -/
theorem stepRunsTheDecodedTransaction : Obligations.StepRunsTheDecodedTransaction := by
  unfold Obligations.StepRunsTheDecodedTransaction
  intro s
  refine ⟨step_of_idle, fun t rest i hbus hdec => ?_, fun t rest e hbus hdec => ?_⟩
  · rw [step_of_head hbus, perform_legal _ hdec]
  · rw [step_of_head hbus, perform_illegal _ hdec]

/-! ### A later delivery (R109): no operation of the datapath reads the queue, so each commutes with a delivery -/

section
variable (c : Config) (x : Pair) (t : BusTxn) (s : State)

theorem frontEnd_deliver : frontEnd c x (s.deliver t) = (frontEnd c x s).deliver t := by
  simp only [frontEnd_eq, capturePublish_eq, captureWrite_eq]
  rfl

theorem mainCascade_deliver :
    mainCascade c x (s.deliver t) = ((mainCascade c x s).1, (mainCascade c x s).2.deliver t) := by
  rw [mainCascade_eq, mainCascade_eq]
  rfl

theorem demod_deliver : demod c x (s.deliver t) = ((demod c x s).1, (demod c x s).2.deliver t) := by
  simp only [demod, deliver_mode]
  cases s.mode
  case cw =>
    simp only [demodCw, cwTone, cwCascade_eq, cwMagnitude_eq]
    rfl
  all_goals rfl

theorem emitOne_deliver (p : BitVec 16) : emitOne c p (s.deliver t) = (emitOne c p s).deliver t := by
  rw [emitOne, emitOne, deliver_workCount]
  split <;> rfl

theorem emit_deliver (p : BitVec 16) (n : Nat) : emit c p n (s.deliver t) = (emit c p n s).deliver t := by
  induction n generalizing s with
  | zero => rfl
  | succ n ih => rw [emit, emitOne_deliver, ih, emit]

theorem finalReady_deliver : finalReady c x (s.deliver t) = (finalReady c x s).deliver t := by
  have hd : demod c x (ssAccumulate c x (s.deliver t)) = _ := demod_deliver c x t (ssAccumulate c x s)
  unfold finalReady
  rw [hd]
  rcases demod c x (ssAccumulate c x s) with ⟨_ | a, s1⟩
  · rfl
  · exact emit_deliver c t (agc c a s1).2 _ _

theorem afterCascade_deliver (r : Option Pair) :
    afterCascade c r (s.deliver t) = (afterCascade c r s).deliver t := by
  cases r with
  | none => rfl
  | some x => exact finalReady_deliver c x t s

theorem advanceIndex_deliver : advanceIndex c (s.deliver t) = (advanceIndex c s).deliver t := by
  rw [advanceIndex_eq, advanceIndex_eq]
  rfl

theorem engineStep_deliver (d : BitVec 16) : engineStep c d (s.deliver t) = (engineStep c d s).deliver t := by
  have hin : inputPair c d (s.deliver t) = inputPair c d s := rfl
  simp only [engineStep, hin, deliver_ncoPhase, frontEnd_deliver, mainCascade_deliver, afterCascade_deliver,
    advanceIndex_deliver]

theorem writeMode_deliver (v : Nat) : writeMode c v (s.deliver t) = (writeMode c v s).deliver t := by
  unfold writeMode
  cases modeOfCode v with
  | none => rfl
  | some m =>
    dsimp only
    rw [selectMode, selectMode, deliver_mode]
    split
    · rfl
    · cases m <;> rfl

theorem busError_deliver (h : Word) : busError h (s.deliver t) = (busError h s).deliver t := by
  rw [busError_eq, busError_eq]
  rfl

theorem noResponse_deliver : (s.deliver t).noResponse = s.noResponse.deliver t := rfl

theorem exec_deliver (i : Instr) : ∃ u, exec i s = .next u ∧ exec i (s.deliver t) = .next (u.deliver t) := by
  cases i
  case pushCode data =>
    refine ⟨_, exec_pushCode data s, ?_⟩
    rw [exec_pushCode, engineStep_deliver, noResponse_deliver]
  case wrMode data =>
    refine ⟨(writeMode Config.chip (formUnsigned32 data) s).noResponse, rfl, ?_⟩
    rw [exec, execWrMode, writeMode_deliver, noResponse_deliver]
  all_goals exact ⟨_, rfl, rfl⟩

end

theorem perform_deliver (u : BusTxn) (t : BusTxn) (s : State) :
    ∃ v, perform u s = .next v ∧ perform u (s.deliver t) = .next (v.deliver t) := by
  cases hdec : decode u with
  | ok i =>
    rw [perform_legal _ hdec, perform_legal _ hdec]
    exact exec_deliver t s i
  | error e =>
    rw [perform_illegal _ hdec, perform_illegal _ hdec, busError_deliver]
    exact ⟨_, rfl, rfl⟩

/-- Settles O4: the step takes the same head from both queues, and what it performs commutes with the delivery. -/
theorem laterDeliveriesDoNotChangeAStep : Obligations.LaterDeliveriesDoNotChangeAStep := by
  unfold Obligations.LaterDeliveriesDoNotChangeAStep
  intro s t hne
  obtain ⟨u, rest, hbus⟩ := List.exists_cons_of_ne_nil hne
  have hbus' : (s.deliver t).bus = u :: (rest ++ [t]) := by rw [deliver_bus, hbus, List.cons_append]
  rw [step_of_head hbus, step_of_head hbus']
  exact perform_deliver u t { s with bus := rest }

/-! ### A transaction performed twice (R106) -/

/-- A second write of the value MODE was just written changes nothing (R415). -/
theorem writeMode_idem (c : Config) (v : Nat) (s : State) :
    writeMode c v (writeMode c v s).noResponse = (writeMode c v s).noResponse := by
  unfold writeMode
  cases modeOfCode v with
  | none => rfl
  | some m =>
    have hmode : (selectMode c m s).noResponse.mode = m := by
      unfold selectMode
      split
      case isTrue h => exact h.symm
      case isFalse => cases m <;> rfl
    exact if_pos hmode.symm

/-- Every write but PUSH_CODE leaves what it leaves when it is performed twice (R106). -/
theorem exec_idem (i : Instr) (s : State) (hwrite : i.isWrite = true) (hpush : ∀ data, i ≠ .pushCode data) :
    ∃ t, exec i s = .next t ∧ exec i t = .next t := by
  cases i
  case pushCode data => exact absurd rfl (hpush data)
  case wrStatus data =>
    refine ⟨_, exec_wrStatus data s, ?_⟩
    rw [exec_wrStatus]
    dsimp only
    rw [BitVec.and_assoc, BitVec.and_self]
  case wrMode data =>
    refine ⟨_, rfl, ?_⟩
    rw [exec, execWrMode, writeMode_idem]
    rfl
  case wrFreqOffset | wrBandwidth | wrAgcSpeed | wrCwSidetone | wrGainCal | wrVolume | wrSquelch | wrIqSwap | wrPwmMax =>
    exact ⟨_, rfl, rfl⟩
  all_goals cases hwrite

/-- A read changes its response and the model's count of draws alone (R106, entry 5). -/
theorem exec_read (i : Instr) (s : State) (hread : i.isWrite = false) :
    ∃ v n, exec i s = .next { s with rdata := v, perfDraws := n } := by
  cases i
  case wrStatus | wrFreqOffset | wrMode | wrBandwidth | wrAgcSpeed | wrCwSidetone | wrGainCal | wrVolume | wrSquelch | wrIqSwap
      | wrPwmMax | pushCode => cases hread
  all_goals exact ⟨_, _, rfl⟩

/-- An engine step of the machine moves the index, also at the end of a block (R212, R215). -/
theorem engineStep_blkN_ne (d : BitVec 16) (s : State) : (engineStep Config.chip d s).blkN ≠ s.blkN := by
  have hblock : Config.chip.nBlock = 4000 := rfl
  rw [engineStep_blkN, hblock]
  split <;> omega

/-- Every transaction has a next state (R470, R473). -/
theorem exec_next (i : Instr) (s : State) : ∃ t, exec i s = .next t := by
  rcases exec_cases i s with ⟨data, rfl⟩ | ⟨data, rfl⟩ | ⟨t, ht, -⟩
  · exact ⟨_, exec_wrStatus data s⟩
  · exact ⟨_, exec_pushCode data s⟩
  · exact ⟨t, ht⟩

/-- Settles O55: `exec_read` and `exec_idem`; a second PUSH_CODE moves the index again. -/
theorem readsAreSilentAndWritesIdempotent : Obligations.ReadsAreSilentAndWritesIdempotent := by
  unfold Obligations.ReadsAreSilentAndWritesIdempotent
  intro i s
  obtain ⟨t, ht⟩ := exec_next i s
  obtain ⟨u, hu⟩ := exec_next i t
  refine ⟨t, u, ht, hu, fun hread => ?_, fun hwrite hpush => ?_, fun data hi heq => ?_⟩
  · obtain ⟨v, n, hv⟩ := exec_read i s hread
    obtain rfl : t = _ := Host.Outcome.next.inj (ht.symm.trans hv)
    rfl
  · obtain ⟨t', ht', hidem⟩ := exec_idem i s hwrite hpush
    obtain rfl : t = t' := Host.Outcome.next.inj (ht.symm.trans ht')
    exact Host.Outcome.next.inj (hu.symm.trans hidem)
  · subst hi heq
    have hfix : u = (engineStep Config.chip (formCode data) u).noResponse :=
      Host.Outcome.next.inj (hu.symm.trans (exec_pushCode data u))
    have hidx : u.blkN = (engineStep Config.chip (formCode data) u).blkN := (congrArg State.blkN hfix).trans (noResponse_blkN _)
    exact engineStep_blkN_ne (formCode data) u hidx.symm

end Sys2Proof.Machine
end

section
/-!
PROOFS. Runs along the queue: the oscillator between two retunes, and the handoff counts of the published windows.
-/
namespace Sys2Proof.Machine

/-! ### What a step leaves alone -/

/-- Every transaction of the queue has a next state (R147, R470, R473). -/
theorem perform_next (u : BusTxn) (s : State) : ∃ t, perform u s = .next t := by
  obtain ⟨t, ht, -⟩ := perform_deliver u u s
  exact ⟨t, ht⟩

/-- No step stops the machine (R470, R473). -/
theorem step_next (s : State) : ∃ t, step s = .next t := by
  cases hbus : s.bus with
  | nil => exact ⟨s, step_of_idle hbus⟩
  | cons u rest => exact step_of_head hbus ▸ perform_next u _

/-- No meaning touches the queue (R109). -/
theorem exec_bus {i : Instr} {s t : State} (h : exec i s = .next t) : t.bus = s.bus := by
  rcases exec_cases i s with ⟨data, rfl⟩ | ⟨data, rfl⟩ | ⟨t', ht', -, -, hbus⟩
  · obtain rfl : _ = t := Host.Outcome.next.inj ((exec_wrStatus data s).symm.trans h)
    rfl
  · obtain rfl : _ = t := Host.Outcome.next.inj ((exec_pushCode data s).symm.trans h)
    exact (noResponse_bus _).trans (engineStep_bus _ _ s)
  · obtain rfl : t' = t := Host.Outcome.next.inj (ht'.symm.trans h)
    exact hbus

/-! ### The oscillator (R254, R257) -/

/-- An engine step leaves the frequency word alone (R200). -/
theorem engineStep_freqWord (c : Config) (d : BitVec 16) (s : State) : (engineStep c d s).freqWord = s.freqWord := by
  rw [engineStep_eq, advanceIndex_eq, beforeIndex_frame]

/-- An engine step advances the phase by one frequency word (R254). -/
theorem engineStep_ncoPhase (c : Config) (d : BitVec 16) (s : State) :
    (engineStep c d s).ncoPhase = reg32 c.wPhase (s.ncoPhase.toNat + s.freqWord.toNat) := by
  rw [engineStep_eq, advanceIndex_eq, beforeIndex_frame]

/-- Only a WR_FREQ_OFFSET moves the frequency word (R55, R56). -/
theorem exec_freqWord {i : Instr} {s t : State} (hi : ∀ data, i ≠ .wrFreqOffset data) (h : exec i s = .next t) :
    t.freqWord = s.freqWord := by
  cases i
  case wrFreqOffset data => exact absurd rfl (hi data)
  case pushCode data =>
    obtain rfl : _ = t := Host.Outcome.next.inj ((exec_pushCode data s).symm.trans h)
    exact (noResponse_freqWord _).trans (engineStep_freqWord _ _ s)
  case wrMode data =>
    obtain rfl : _ = t := Host.Outcome.next.inj h
    rcases writeMode_cases Config.chip (formUnsigned32 data) s with hw | ⟨m, hw⟩ <;> rw [noResponse_freqWord, hw]
    cases m <;> rfl
  all_goals
    obtain rfl : _ = t := Host.Outcome.next.inj h
    rfl

/-- Only a PUSH_CODE moves the phase (R254). -/
theorem exec_ncoPhase {i : Instr} {s t : State} (hi : ∀ data, i ≠ .pushCode data) (h : exec i s = .next t) :
    t.ncoPhase = s.ncoPhase := by
  rcases exec_cases i s with ⟨data, rfl⟩ | ⟨data, rfl⟩ | ⟨t', ht', hengine, -⟩
  · obtain rfl : _ = t := Host.Outcome.next.inj ((exec_wrStatus data s).symm.trans h)
    rfl
  · exact absurd rfl (hi data)
  · obtain rfl : t' = t := Host.Outcome.next.inj (ht'.symm.trans h)
    exact hengine.ncoPhase

/-- The phase `k` codes on from state `s`, all of them at its frequency word (R257). -/
def State.phaseAfter (k : Nat) (s : State) : Nat := (s.ncoPhase.toNat + k * s.freqWord.toNat) % 2 ^ Config.chip.wPhase

theorem phaseAfter_eq (k : Nat) (s : State) :
    s.phaseAfter k = (s.ncoPhase.toNat + k * s.freqWord.toNat) % 2 ^ Config.chip.wPhase := rfl

theorem phaseAfter_zero (s : State) : s.phaseAfter 0 = s.ncoPhase.toNat := by
  rw [phaseAfter_eq, Nat.zero_mul]
  exact Nat.mod_eq_of_lt s.ncoPhase.isLt

/-- Phases add up: `k` codes after `j` codes are `k + j` codes, over any number of wraps. -/
theorem phaseAfter_add {s t : State} {j : Nat} (k : Nat) (hword : t.freqWord = s.freqWord)
    (hphase : t.ncoPhase.toNat = s.phaseAfter j) : t.phaseAfter k = s.phaseAfter (k + j) := by
  simp only [phaseAfter_eq, hword, hphase, Nat.mod_add_mod, Nat.add_mul]
  congr 1
  omega

theorem engineStep_phaseAfter (d : BitVec 16) (s : State) :
    (engineStep Config.chip d s).ncoPhase.toNat = s.phaseAfter 1 := by
  have hw : Config.chip.wPhase ≤ 32 := by decide
  rw [engineStep_ncoPhase, reg32_toNat _ _ hw, phaseAfter_eq, Nat.one_mul]
  exact_mod_cast umod_cast Config.chip.wPhase (s.ncoPhase.toNat + s.freqWord.toNat)

theorem isTune_of_decode {u : BusTxn} {data : Word} (h : decode u = .ok (.wrFreqOffset data)) : isTune u = true := by
  rw [isTune, h]

/-- A transaction that is no retune keeps the frequency word, and advances the phase exactly when it is a PUSH_CODE. -/
theorem perform_oscillator (u : BusTxn) (s : State) (hu : isTune u = false) :
    ∃ t, perform u s = .next t ∧ t.bus = s.bus ∧ t.freqWord = s.freqWord ∧
      t.ncoPhase.toNat = s.phaseAfter (if isPush u then 1 else 0) := by
  cases hdec : decode u with
  | error e =>
    have hno : isPush u = false := by rw [isPush, hdec]
    refine ⟨_, perform_illegal s hdec, ?_⟩
    rw [busError_eq, hno]
    exact ⟨rfl, rfl, (phaseAfter_zero s).symm⟩
  | ok i =>
    have hi : ∀ data, i ≠ .wrFreqOffset data := by
      rintro data rfl
      simp [isTune_of_decode hdec] at hu
    obtain ⟨t, ht⟩ := exec_next i s
    refine ⟨t, (perform_legal s hdec).trans ht, exec_bus ht, exec_freqWord hi ht, ?_⟩
    cases hpush : isPush u with
    | true =>
      obtain ⟨data, hdata⟩ := (isPush_iff u).mp hpush
      obtain rfl : i = .pushCode data := Except.ok.inj (hdec.symm.trans hdata)
      obtain rfl : _ = t := Host.Outcome.next.inj ((exec_pushCode data s).symm.trans ht)
      rw [noResponse_ncoPhase]
      exact engineStep_phaseAfter _ s
    | false =>
      have hi' : ∀ data, i ≠ .pushCode data := by
        rintro data rfl
        simp [(isPush_iff u).mpr ⟨data, hdec⟩] at hpush
      exact (congrArg BitVec.toNat (exec_ncoPhase hi' ht)).trans (phaseAfter_zero s).symm

/-- Settles O22, by induction on the run: the steps of `perform_oscillator` add up by `phaseAfter_add`. -/
theorem oscillatorDoesNotDrift : Obligations.OscillatorDoesNotDrift := by
  unfold Obligations.OscillatorDoesNotDrift
  intro n
  induction n with
  | zero => exact fun s _ => ⟨s, rfl, rfl, (phaseAfter_zero s).symm⟩
  | succ n ih =>
    intro s htune
    cases hbus : s.bus with
    | nil =>
      obtain ⟨v, hrun, hword, hphase⟩ := ih s (by simp [hbus])
      rw [hbus, List.take_nil] at hphase
      exact ⟨v, (run_succ_of_step Sys2Proof.core n s s (step_of_idle hbus)).trans hrun, hword, hphase⟩
    | cons u rest =>
      rw [hbus, List.take_succ_cons, List.forall_mem_cons] at htune
      obtain ⟨hu, hrest⟩ := htune
      obtain ⟨t, hperf, htbus, htword, htphase⟩ := perform_oscillator u { s with bus := rest } hu
      obtain ⟨v, hrun, hword, hphase⟩ := ih t (by rw [htbus]; exact hrest)
      have hstep : step s = .next t := (step_of_head hbus).trans hperf
      refine ⟨v, (run_succ_of_step Sys2Proof.core n s t hstep).trans hrun, hword.trans htword, ?_⟩
      rw [htbus] at hphase
      rw [List.take_succ_cons, List.countP_cons]
      exact hphase.trans (phaseAfter_add _ htword htphase)

/-! ### The handoff counts (R115, R205, R215) -/

/-- A run of `n` steps ends in a next state (R470, R473). -/
theorem run_next (n : Nat) (s : State) : ∃ t, Host.Core.run Sys2Proof.core n s = .next t := by
  induction n generalizing s with
  | zero => exact ⟨s, rfl⟩
  | succ n ih =>
    obtain ⟨t, ht⟩ := step_next s
    rw [run_succ_of_step Sys2Proof.core n s t ht]
    exact ih t

/-- A run goes on from where a shorter one ended. -/
theorem run_add (M : Host.Core) (m k : Nat) (s t : M.State) (h : M.run m s = .next t) : M.run (m + k) s = M.run k t := by
  induction m generalizing s with
  | zero =>
    obtain rfl : s = t := Host.Outcome.next.inj h
    rw [Nat.zero_add]
  | succ m ih =>
    rw [Host.Core.run] at h
    cases hstep : M.step s with
    | next s' =>
      rw [hstep] at h
      rw [Nat.add_right_comm, run_succ_of_step M (m + k) s s' hstep]
      exact ih s' h
    | fault r => simp [hstep] at h
    | refused r => simp [hstep] at h

/-- The handoff rule for a count and the window it counts, from state `s` to state `t`: either both are as they were, or the count
went up by one. -/
def Handoff {α : Type} (seq : State → Word) (window : State → α) (s t : State) : Prop :=
  (seq t = seq s ∧ window t = window s) ∨ seq t = seq s + 1

/-- The capture window (R74). -/
abbrev captureWindow (s : State) : List (BitVec 8) × List (BitVec 8) := (s.capI, s.capQ)

/-- What a block end publishes (R67, R68, R75). -/
abbrev audioBlock (s : State) : List (BitVec 16) × BitVec 11 × Word := (s.audioOut, s.outCount, s.signalStrength)

/-- Both windows of the machine are handed off by their counts (R115). -/
abbrev HandsOff (s t : State) : Prop :=
  Handoff State.capSeq captureWindow s t ∧ Handoff State.blkSeq audioBlock s t

/-- The engine step counts the capture window and the audio block whenever it publishes them (R205, R215). -/
theorem engineStep_handsOff (c : Config) (d : BitVec 16) (s : State) : HandsOff s (engineStep c d s) := by
  rw [engineStep_eq, advanceIndex_eq, beforeIndex_frame, capturePublish_eq, capturePublish_eq, captureWrite_eq]
  constructor
  · by_cases hcap : s.blkN + 1 = c.capLen
    · exact .inr (if_pos hcap)
    · exact .inl ⟨if_neg hcap, congrArg₂ Prod.mk (if_neg hcap) (if_neg hcap)⟩
  · by_cases hblk : s.blkN + 1 = c.nBlock
    · exact .inr (if_pos hblk)
    · exact .inl ⟨if_neg hblk, congrArg₂ Prod.mk (if_neg hblk) (congrArg₂ Prod.mk (if_neg hblk) (if_neg hblk))⟩

/-- A transaction that leaves the engine alone publishes nothing. -/
theorem SameEngine.handsOff {s t : State} (h : SameEngine s t) : HandsOff s t :=
  ⟨.inl ⟨h.capSeq, congrArg₂ Prod.mk h.capI h.capQ⟩,
    .inl ⟨h.blkSeq, congrArg₂ Prod.mk h.audioOut (congrArg₂ Prod.mk h.outCount h.signalStrength)⟩⟩

theorem noResponse_handsOff {s t : State} (h : HandsOff s t) : HandsOff s t.noResponse := h

theorem exec_handsOff {i : Instr} {s t : State} (h : exec i s = .next t) : HandsOff s t := by
  rcases exec_cases i s with ⟨data, rfl⟩ | ⟨data, rfl⟩ | ⟨t', ht', hengine, -⟩
  · obtain rfl : _ = t := Host.Outcome.next.inj ((exec_wrStatus data s).symm.trans h)
    exact ⟨.inl ⟨rfl, rfl⟩, .inl ⟨rfl, rfl⟩⟩
  · obtain rfl : _ = t := Host.Outcome.next.inj ((exec_pushCode data s).symm.trans h)
    exact noResponse_handsOff (engineStep_handsOff Config.chip (formCode data) s)
  · obtain rfl : t' = t := Host.Outcome.next.inj (ht'.symm.trans h)
    exact hengine.handsOff

theorem step_handsOff {s t : State} (h : step s = .next t) : HandsOff s t := by
  rcases step_cases s with ⟨-, hstep⟩ | ⟨u, rest, i, -, -, hstep⟩ | ⟨u, rest, e, -, -, hstep⟩
  · obtain rfl : s = t := Host.Outcome.next.inj (hstep.symm.trans h)
    exact ⟨.inl ⟨rfl, rfl⟩, .inl ⟨rfl, rfl⟩⟩
  · exact exec_handsOff (s := { s with bus := rest }) (hstep.symm.trans h)
  · obtain rfl : _ = t := Host.Outcome.next.inj (hstep.symm.trans h)
    rw [busError_eq]
    exact ⟨.inl ⟨rfl, rfl⟩, .inl ⟨rfl, rfl⟩⟩

section
variable {α : Type} {seq : State → Word} {window : State → α}

/-- Over a run of `n` steps a count goes up by some `k` up to `n`, and with `k = 0` its window is the same throughout. -/
theorem run_handoff (hstep : ∀ s t, step s = .next t → Handoff seq window s t) (n : Nat) (s t : State)
    (hrun : Host.Core.run Sys2Proof.core n s = .next t) :
    ∃ k ≤ n, seq t = seq s + BitVec.ofNat 32 k ∧ (k = 0 → window t = window s) := by
  induction n generalizing s with
  | zero =>
    obtain rfl : s = t := Host.Outcome.next.inj hrun
    exact ⟨0, le_rfl, by simp, fun _ => rfl⟩
  | succ n ih =>
    obtain ⟨s', hs'⟩ := step_next s
    obtain ⟨k, hk, hseq, hwin⟩ := ih s' ((run_succ_of_step Sys2Proof.core n s s' hs').symm.trans hrun)
    rcases hstep s s' hs' with ⟨hseq', hwin'⟩ | hseq'
    · exact ⟨k, by omega, by rw [hseq, hseq'], fun h => (hwin h).trans hwin'⟩
    · refine ⟨k + 1, by omega, ?_, fun h => absurd h (by omega)⟩
      rw [hseq, hseq', BitVec.ofNat_add, BitVec.add_assoc]
      exact congrArg _ (BitVec.add_comm _ _)

/-- Equal counts around fewer than 2^32 steps mean one window throughout: neither part of the run counted a publication. -/
theorem window_eq_of_seq_eq (hstep : ∀ s t, step s = .next t → Handoff seq window s t) (m k : Nat) (hmk : m + k < 2 ^ 32)
    (s t u : State) (hst : Host.Core.run Sys2Proof.core m s = .next t) (htu : Host.Core.run Sys2Proof.core k t = .next u)
    (hseq : seq u = seq s) : window t = window s := by
  obtain ⟨a, ha, hseqt, hwin⟩ := run_handoff hstep m s t hst
  obtain ⟨b, hb, hsequ, -⟩ := run_handoff hstep k t u htu
  apply hwin
  have hcount : BitVec.ofNat 32 (a + b) = 0#32 := by
    rw [hsequ, hseqt, BitVec.add_assoc, ← BitVec.ofNat_add] at hseq
    exact BitVec.self_eq_add_right.mp hseq.symm
  have hmod : (a + b) % 2 ^ 32 = 0 := congrArg BitVec.toNat hcount
  omega

end

/-- Settles O59: every step hands both windows off by their counts, so `window_eq_of_seq_eq` holds for each. -/
theorem equalCountsMeanOnePublishedWindow : Obligations.EqualCountsMeanOnePublishedWindow := by
  unfold Obligations.EqualCountsMeanOnePublishedWindow
  intro m n s hmn hn
  obtain ⟨k, rfl⟩ := Nat.exists_eq_add_of_le hmn
  obtain ⟨t, hst⟩ := run_next m s
  obtain ⟨u, htu⟩ := run_next k t
  refine ⟨t, u, hst, (run_add Sys2Proof.core m k s t hst).trans htu, fun hseq => ?_, fun hseq => ?_⟩
  · exact Prod.mk.inj (window_eq_of_seq_eq (window := captureWindow) (fun s t h => (step_handsOff h).1) m k hn s t u hst htu hseq)
  · have hblock : audioBlock t = audioBlock s :=
      window_eq_of_seq_eq (fun s t h => (step_handsOff h).2) m k hn s t u hst htu hseq
    obtain ⟨haudio, hrest⟩ := Prod.mk.inj hblock
    exact ⟨haudio, Prod.mk.inj hrest⟩

end Sys2Proof.Machine
end

section
/-!
PROOFS. The decoder by the row it takes; which row that is by the number of the header, for the registers and the windows; the
address map of the reads.
-/
namespace Sys2Proof.Machine

/-! ### Decoding by the row found (R142, R146) -/

/-- The row of the opcode map that the decoder takes for a header. -/
abbrev rowOf (h : Word) : Option OpRow := opRows.find? (fun r => r.hit h)

theorem rowOf_some {h : Word} {r : OpRow} (hrow : rowOf h = some r) : r ∈ opRows ∧ r.hit h = true :=
  ⟨List.mem_of_find?_eq_some hrow, List.find?_some (p := fun r : OpRow => r.hit h) hrow⟩

/-- RSV 0 and a word-aligned address (R104, R142). -/
abbrev CleanFields (h : Word) : Prop := headerRsv h = 0 ∧ (headerAddr h).extractLsb' 0 2 = 0

/-- The decoder reads a transaction exactly from a clean header whose row builds it, when its operands are well formed. -/
theorem decode_eq_ok_iff (h data : Word) (i : Instr) : decode ⟨h, data⟩ = .ok i ↔
    CleanFields h ∧ ∃ r, rowOf h = some r ∧ r.build (headerAddr h) data = i ∧ i.wf Config.chip.outCap = true := by
  unfold decode decodeIn
  constructor
  · intro hdec
    split at hdec
    · cases hdec
    next hrsv =>
      split at hdec
      · cases hdec
      next halign =>
        cases hrow : rowOf h with
        | none => simp only [hrow, reduceCtorEq] at hdec
        | some r =>
          simp only [hrow] at hdec
          split at hdec
          next hwf =>
            obtain rfl := Except.ok.inj hdec
            exact ⟨⟨not_not.mp hrsv, not_not.mp halign⟩, r, rfl, rfl, hwf⟩
          · cases hdec
  · rintro ⟨⟨hrsv, halign⟩, r, hrow, rfl, hwf⟩
    simp only [hrsv, halign, hrow, hwf, ne_eq, not_true, if_false, if_true]

/-- The two fields by number. -/
theorem cleanFields_iff (h : Word) : CleanFields h ↔ h.toNat / 2 ^ 16 % 2 ^ 15 = 0 ∧ h.toNat % 4 = 0 := by
  have hrsv : (headerRsv h).toNat = h.toNat / 2 ^ 16 % 2 ^ 15 := by
    rw [headerRsv, BitVec.extractLsb'_toNat, Nat.shiftRight_eq_div_pow]
  have halign : ((headerAddr h).extractLsb' 0 2).toNat = h.toNat % 4 := by
    simp only [headerAddr, BitVec.extractLsb'_toNat, Nat.shiftRight_zero]
    exact Nat.mod_mod_of_dvd h.toNat (by decide)
  rw [CleanFields, BitVec.toNat_eq, BitVec.toNat_eq, hrsv, halign]
  rfl

/-! ### The rows by number -/

/-- The rows of one header each: the registers, STATUS and ADC_DATA (R101). -/
def registerRows : List OpRow := opRows.take 31

/-- The row of CAP_I (R441). -/
def capIRow : OpRow := ⟨0x00000400#32, 0xFFFFFC03#32, fun a _ => .rdCapI (windowIndex 8 0x0400#16 a)⟩

/-- The row of CAP_Q (R442). -/
def capQRow : OpRow := ⟨0x00000800#32, 0xFFFFFC03#32, fun a _ => .rdCapQ (windowIndex 8 0x0800#16 a)⟩

/-- The row of AUDIO_OUT (R443). -/
def audioRow : OpRow := ⟨0x00001000#32, 0xFFFFF003#32, fun a _ => .rdAudioOut (windowIndex 10 0x1000#16 a)⟩

/-- The rows of the three windows (R144). -/
def windowRows : List OpRow := [capIRow, capQRow, audioRow]

theorem opRows_eq : opRows = registerRows ++ windowRows := (List.take_append_drop 31 opRows).symm

theorem mem_opRows (r : OpRow) : r ∈ opRows ↔ r ∈ registerRows ∨ r = capIRow ∨ r = capQRow ∨ r = audioRow := by
  simp [opRows_eq, windowRows]

theorem registerRows_mask : (registerRows.all fun r => r.mask == BitVec.allOnes 32) = true := by decide

theorem registerRow_hit_iff {r : OpRow} (hr : r ∈ registerRows) (h : Word) : r.hit h = true ↔ h = r.matchBits := by
  have hmask : r.mask = BitVec.allOnes 32 := eq_of_beq (List.all_eq_true.mp registerRows_mask r hr)
  rw [OpRow.hit, hmask, beq_iff_eq, BitVec.and_allOnes]

/-- Only an AUDIO_OUT index can be ill formed (R144). -/
theorem registerRow_wf :
    ∀ r ∈ registerRows, ∀ (a : BitVec 16) (data : Word), (r.build a data).wf Config.chip.outCap = true := by
  simp [registerRows, opRows, opRows1, opRows2, opRows3, Instr.wf]

/-- A mask that drops the address bits 2 to `n - 1`, on a word-aligned header: it keeps the number of the block of 2^n bytes. -/
theorem windowMask_iff (h : Word) (n k : Nat) (hk : k * 2 ^ n < 2 ^ 32) (halign : h.toNat % 4 = 0) :
    h &&& (BitVec.allOnes 32 <<< n ||| 3#32) = BitVec.ofNat 32 (k * 2 ^ n) ↔ h.toNat / 2 ^ n = k := by
  have hlow : h &&& 3#32 = 0#32 := by
    apply BitVec.eq_of_toNat_eq
    rw [BitVec.toNat_and]
    exact (Nat.and_two_pow_sub_one_eq_mod h.toNat 2).trans halign
  have hhigh : h.toNat / 2 ^ n * 2 ^ n < 2 ^ 32 := (Nat.div_mul_le_self _ _).trans_lt h.isLt
  rw [BitVec.and_or_distrib_left, hlow, BitVec.or_zero, ← BitVec.shiftLeft_ushiftRight, BitVec.toNat_eq,
    BitVec.toNat_shiftLeft, BitVec.toNat_ushiftRight, Nat.shiftRight_eq_div_pow, Nat.shiftLeft_eq, Nat.mod_eq_of_lt hhigh,
    BitVec.toNat_ofNat, Nat.mod_eq_of_lt hk, Nat.mul_left_inj (Nat.two_pow_pos n).ne']

section
variable {h : Word} (halign : h.toNat % 4 = 0)
include halign

theorem capIRow_hit_iff : capIRow.hit h = true ↔ 0x400 ≤ h.toNat ∧ h.toNat < 0x800 := by
  rw [OpRow.hit, beq_iff_eq, show (h &&& capIRow.mask = capIRow.matchBits) ↔ _ from windowMask_iff h 10 1 (by decide) halign]
  omega

theorem capQRow_hit_iff : capQRow.hit h = true ↔ 0x800 ≤ h.toNat ∧ h.toNat < 0xC00 := by
  rw [OpRow.hit, beq_iff_eq, show (h &&& capQRow.mask = capQRow.matchBits) ↔ _ from windowMask_iff h 10 2 (by decide) halign]
  omega

theorem audioRow_hit_iff : audioRow.hit h = true ↔ 0x1000 ≤ h.toNat ∧ h.toNat < 0x2000 := by
  rw [OpRow.hit, beq_iff_eq, show (h &&& audioRow.mask = audioRow.matchBits) ↔ _ from windowMask_iff h 12 1 (by decide) halign]
  omega

end

/-- Within a window of `2^w` entries the index counts the words from the base (R144). -/
theorem windowIndex_toNat (w : Nat) (base a : BitVec 16) (hlo : base.toNat ≤ a.toNat) (hhi : a.toNat < base.toNat + 2 ^ w * 4) :
    (windowIndex w base a).toNat = (a.toNat - base.toNat) / 4 := by
  rw [windowIndex, BitVec.toNat_setWidth, BitVec.toNat_ushiftRight, BitVec.toNat_sub_of_le hlo, Nat.shiftRight_eq_div_pow]
  exact Nat.mod_eq_of_lt (Nat.div_lt_of_lt_mul (by omega))

/-! ### The headers the decoder accepts (R101, R142) -/

theorem headerAddr_toNat (h : Word) : (headerAddr h).toNat = h.toNat % 2 ^ 16 := by
  rw [headerAddr, BitVec.extractLsb'_toNat, Nat.shiftRight_zero]

/-- The addresses a write may name (R101). -/
abbrev writeAddresses : List Nat := [0x00, 0x04, 0x0C, 0x10, 0x14, 0x18, 0x20, 0x24, 0x28, 0x2C, 0x30, 0x40]

/-- The numbers of the headers that name a register, STATUS or ADC_DATA: the reads from 0x00 to 0x4C but ADC_DATA, and the twelve
writes (R101). -/
abbrev RegisterHeader (n : Nat) : Prop :=
  if n < 2 ^ 31 then n ≤ 0x4C ∧ n ≠ 0x40
  else n % 2 ^ 16 ∈ writeAddresses

theorem registerRow_header {r : OpRow} (hr : r ∈ registerRows) : RegisterHeader r.matchBits.toNat := by
  have hall : (registerRows.all fun r => decide (RegisterHeader r.matchBits.toNat)) = true := by decide
  exact of_decide_eq_true (List.all_eq_true.mp hall r hr)

theorem exists_registerRow_of_read (n : Nat) (hn : n ≤ 0x4C) (hne : n ≠ 0x40) (halign : n % 4 = 0) :
    ∃ r ∈ registerRows, BitVec.ofNat 32 n = r.matchBits := by
  have hall : ∀ n < 0x4D, n ≠ 0x40 → n % 4 = 0 → BitVec.ofNat 32 n ∈ registerRows.map OpRow.matchBits := by decide
  obtain ⟨r, hr, heq⟩ := List.mem_map.mp (hall n (by omega) hne halign)
  exact ⟨r, hr, heq.symm⟩

theorem exists_registerRow_of_write (k : Nat) (hk : k ∈ writeAddresses) :
    ∃ r ∈ registerRows, BitVec.ofNat 32 (0x80000000 + k) = r.matchBits := by
  have hall : ∀ k ∈ writeAddresses, BitVec.ofNat 32 (0x80000000 + k) ∈ registerRows.map OpRow.matchBits := by decide
  obtain ⟨r, hr, heq⟩ := List.mem_map.mp (hall k hk)
  exact ⟨r, hr, heq.symm⟩

theorem exists_registerRow_hit_iff {h : Word} (hrsv : h.toNat / 2 ^ 16 % 2 ^ 15 = 0) (halign : h.toNat % 4 = 0) :
    (∃ r ∈ registerRows, r.hit h = true) ↔ RegisterHeader h.toNat := by
  constructor
  · rintro ⟨r, hr, hit⟩
    rw [(registerRow_hit_iff hr h).mp hit]
    exact registerRow_header hr
  · intro hreg
    have hrow : ∃ r ∈ registerRows, BitVec.ofNat 32 h.toNat = r.matchBits := by
      unfold RegisterHeader at hreg
      split at hreg
      case isTrue => exact exists_registerRow_of_read h.toNat hreg.1 hreg.2 halign
      case isFalse =>
        have hsum : h.toNat = 0x80000000 + h.toNat % 2 ^ 16 := by omega
        rw [hsum]
        exact exists_registerRow_of_write _ hreg
    obtain ⟨r, hr, heq⟩ := hrow
    exact ⟨r, hr, (registerRow_hit_iff hr h).mpr (by rw [← heq, BitVec.ofNat_toNat, BitVec.setWidth_eq])⟩

/-! ### The row found, by number -/

theorem rowOf_register {h : Word} (hex : ∃ r ∈ registerRows, r.hit h = true) : ∃ r ∈ registerRows, rowOf h = some r := by
  obtain ⟨r, hfind⟩ := Option.isSome_iff_exists.mp (List.find?_isSome.mpr hex)
  exact ⟨r, List.mem_of_find?_eq_some hfind, by rw [rowOf, opRows_eq, List.find?_append, hfind, Option.some_or]⟩

/-- Above the registers the decoder looks at the rows of the windows only. -/
theorem rowOf_beyond_registers {h : Word} (hlo : 0x4C < h.toNat) (hhi : h.toNat < 2 ^ 31) :
    rowOf h = windowRows.find? (fun r => r.hit h) := by
  have hnone : registerRows.find? (fun r => r.hit h) = none := by
    refine List.find?_eq_none.mpr fun r hr hit => ?_
    have hreg := registerRow_header hr
    rw [← (registerRow_hit_iff hr h).mp hit, RegisterHeader, if_pos hhi] at hreg
    omega
  rw [rowOf, opRows_eq, List.find?_append, hnone, Option.none_or]

section
variable {h : Word} (halign : h.toNat % 4 = 0)
include halign

theorem rowOf_capI (hit : 0x400 ≤ h.toNat ∧ h.toNat < 0x800) : rowOf h = some capIRow := by
  rw [rowOf_beyond_registers (by omega) (by omega), windowRows, List.find?_cons, (capIRow_hit_iff halign).mpr hit]

theorem rowOf_capQ (hit : 0x800 ≤ h.toNat ∧ h.toNat < 0xC00) : rowOf h = some capQRow := by
  have hI : capIRow.hit h = false := Bool.eq_false_iff.mpr fun hI => by have := (capIRow_hit_iff halign).mp hI; omega
  rw [rowOf_beyond_registers (by omega) (by omega), windowRows, List.find?_cons, List.find?_cons, hI,
    (capQRow_hit_iff halign).mpr hit]

theorem rowOf_audio (hit : 0x1000 ≤ h.toNat ∧ h.toNat < 0x2000) : rowOf h = some audioRow := by
  have hI : capIRow.hit h = false := Bool.eq_false_iff.mpr fun hI => by have := (capIRow_hit_iff halign).mp hI; omega
  have hQ : capQRow.hit h = false := Bool.eq_false_iff.mpr fun hQ => by have := (capQRow_hit_iff halign).mp hQ; omega
  rw [rowOf_beyond_registers (by omega) (by omega), windowRows, List.find?_cons, List.find?_cons, List.find?_cons, hI, hQ,
    (audioRow_hit_iff halign).mpr hit]

end

theorem audioRow_wf_iff {h : Word} (data : Word) (hlo : 0x1000 ≤ h.toNat) (hhi : h.toNat < 0x2000) :
    (audioRow.build (headerAddr h) data).wf Config.chip.outCap = true ↔ h.toNat < 0x1000 + 4 * Config.chip.outCap := by
  have haddr : (headerAddr h).toNat = h.toNat := by rw [headerAddr_toNat]; omega
  have hindex : (windowIndex 10 0x1000#16 (headerAddr h)).toNat = ((headerAddr h).toNat - 0x1000) / 4 :=
    windowIndex_toNat 10 0x1000#16 _ (by rw [haddr]; exact hlo) (by rw [haddr]; exact hhi)
  rw [audioRow, Instr.wf, decide_eq_true_iff, hindex, haddr]
  omega

/-- The clean headers with a row whose operands are well formed, by number. -/
theorem exists_rowOf_wf_iff {h : Word} (data : Word) (hrsv : h.toNat / 2 ^ 16 % 2 ^ 15 = 0) (halign : h.toNat % 4 = 0) :
    (∃ r, rowOf h = some r ∧ (r.build (headerAddr h) data).wf Config.chip.outCap = true) ↔
      RegisterHeader h.toNat ∨ (0x400 ≤ h.toNat ∧ h.toNat < 0xC00) ∨
        (0x1000 ≤ h.toNat ∧ h.toNat < 0x1000 + 4 * Config.chip.outCap) := by
  have hcap : Config.chip.outCap = 404 := rfl
  constructor
  · rintro ⟨r, hrow, hwf⟩
    obtain ⟨hr, hit⟩ := rowOf_some hrow
    rcases (mem_opRows r).mp hr with hreg | rfl | rfl | rfl
    · exact .inl ((exists_registerRow_hit_iff hrsv halign).mp ⟨r, hreg, hit⟩)
    · have := (capIRow_hit_iff halign).mp hit
      exact .inr (.inl (by omega))
    · have := (capQRow_hit_iff halign).mp hit
      exact .inr (.inl (by omega))
    · obtain ⟨hlo, hhi⟩ := (audioRow_hit_iff halign).mp hit
      exact .inr (.inr ⟨hlo, (audioRow_wf_iff data hlo hhi).mp hwf⟩)
  · rintro (hreg | ⟨hlo, hhi⟩ | ⟨hlo, hhi⟩)
    · obtain ⟨r, hr, hrow⟩ := rowOf_register ((exists_registerRow_hit_iff hrsv halign).mpr hreg)
      exact ⟨r, hrow, registerRow_wf r hr _ _⟩
    · by_cases hmid : h.toNat < 0x800
      · exact ⟨capIRow, rowOf_capI halign ⟨hlo, hmid⟩, rfl⟩
      · exact ⟨capQRow, rowOf_capQ halign ⟨by omega, hhi⟩, rfl⟩
    · have htop : h.toNat < 0x2000 := by omega
      exact ⟨audioRow, rowOf_audio halign ⟨hlo, htop⟩, (audioRow_wf_iff data hlo htop).mpr hhi⟩

/-- Settles O5: the two fields by `cleanFields_iff`, the rows by `exists_rowOf_wf_iff`. -/
theorem legalHeadersAreThoseOfTheAddressMap : Obligations.LegalHeadersAreThoseOfTheAddressMap := by
  unfold Obligations.LegalHeadersAreThoseOfTheAddressMap
  intro h data
  have hdec : (∃ i, decode ⟨h, data⟩ = .ok i) ↔
      CleanFields h ∧ ∃ r, rowOf h = some r ∧ (r.build (headerAddr h) data).wf Config.chip.outCap = true := by
    simp only [decode_eq_ok_iff]
    constructor
    · rintro ⟨i, hclean, r, hrow, rfl, hwf⟩
      exact ⟨hclean, r, hrow, hwf⟩
    · rintro ⟨hclean, r, hrow, hwf⟩
      exact ⟨_, hclean, r, hrow, rfl, hwf⟩
  have hcap : Config.chip.outCap = 404 := rfl
  rw [hdec, cleanFields_iff, and_assoc]
  refine and_congr_right fun hrsv => and_congr_right fun halign => ?_
  rw [exists_rowOf_wf_iff data hrsv halign, hcap]
  unfold RegisterHeader
  split
  case isTrue => rfl
  case isFalse hwrite =>
    have hwindow : ¬((0x400 ≤ h.toNat ∧ h.toNat < 0xC00) ∨ (0x1000 ≤ h.toNat ∧ h.toNat < 0x1000 + 4 * 404)) := by omega
    exact or_iff_left hwindow

/-! ### The reads by the address map (R101, R104, R106, R107) -/

theorem readHeader_toNat (a : BitVec 16) : (readHeader a).toNat = a.toNat := by
  rw [readHeader, BitVec.toNat_setWidth]
  have := a.isLt
  omega

theorem headerAddr_readHeader (a : BitVec 16) : headerAddr (readHeader a) = a := by
  apply BitVec.eq_of_toNat_eq
  rw [headerAddr_toNat, readHeader_toNat]
  have := a.isLt
  omega

/-- A read of `a` is legal, returns `v` and changes nothing else (R106) but the draws of PERF_CYCLES (entry 5). -/
abbrev ReadReturns (a : BitVec 16) (s : State) (v : Word) : Prop :=
  ∃ i, decode (readTxn a) = .ok i ∧ exec i s =
    .next { s with rdata := some v, perfDraws := if a = 0x004C#16 then s.perfDraws + 1 else s.perfDraws }

/-- The addresses of the readable registers (R101). -/
def readableRegisters : List Nat :=
  [0x00, 0x04, 0x08, 0x0C, 0x10, 0x14, 0x18, 0x1C, 0x20, 0x24, 0x28, 0x2C, 0x30, 0x34, 0x38, 0x3C, 0x44, 0x48, 0x4C]

theorem read_register (s : State) : ∀ n ∈ readableRegisters,
    ∃ v, peekWord s (BitVec.ofNat 16 n) = some v ∧ ReadReturns (BitVec.ofNat 16 n) s v := by
  simp only [readableRegisters, List.forall_mem_cons, List.not_mem_nil, false_imp_iff, implies_true, and_true]
  and_intros <;> exact ⟨_, rfl, _, rfl, rfl⟩

/-- Away from the registers the address map has the three windows only (R101, R104). -/
theorem peekWord_of_not_register {a : BitVec 16} (ha : a.toNat ∉ readableRegisters) (s : State) :
    peekWord s a =
      if a.toNat % 4 ≠ 0 then none
      else if 0x0400 ≤ a.toNat ∧ a.toNat < 0x0800 then some (rdataSigned8 (entry s.capI ((a.toNat - 0x0400) / 4)))
      else if 0x0800 ≤ a.toNat ∧ a.toNat < 0x0C00 then some (rdataSigned8 (entry s.capQ ((a.toNat - 0x0800) / 4)))
      else if 0x1000 ≤ a.toNat ∧ a.toNat < 0x1000 + 4 * Config.chip.outCap then
        some (rdataUnsigned (entry s.audioOut ((a.toNat - 0x1000) / 4)))
      else none := by
  unfold peekWord
  split
  case h_20 => rfl
  all_goals exact absurd (by rw [‹a.toNat = _›]; decide) ha

theorem legalHeader_read_iff {a : BitVec 16} : LegalHeader (readHeader a) ↔ a.toNat % 4 = 0 ∧
    ((a.toNat ≤ 0x4C ∧ a.toNat ≠ 0x40) ∨ (0x400 ≤ a.toNat ∧ a.toNat < 0xC00) ∨
      (0x1000 ≤ a.toNat ∧ a.toNat < 0x1000 + 4 * Config.chip.outCap)) := by
  have hlt := a.isLt
  rw [LegalHeader, readHeader_toNat, if_pos (by omega)]
  exact and_iff_right (by omega)

theorem mem_readableRegisters {n : Nat} (halign : n % 4 = 0) (hle : n ≤ 0x4C) (hne : n ≠ 0x40) : n ∈ readableRegisters := by
  have hall : ∀ n < 0x4D, n ≠ 0x40 → n % 4 = 0 → n ∈ readableRegisters := by decide
  exact hall n (by omega) hne halign

/-- A word-aligned read beyond the registers returns what its row answers, when the row's operands are well formed. -/
theorem readReturns_of_row {r : OpRow} {a : BitVec 16} {s : State} {v : Word} (halign : a.toNat % 4 = 0)
    (hbeyond : 0x4C < a.toNat) (hrow : rowOf (readHeader a) = some r) (hwf : (r.build a 0).wf Config.chip.outCap = true)
    (hexec : exec (r.build a 0) s = .next (s.respond v)) : ReadReturns a s v := by
  have hclean : CleanFields (readHeader a) := by
    have hlt := a.isLt
    rw [cleanFields_iff, readHeader_toNat]
    omega
  have hperf : a ≠ 0x004C#16 := by
    rintro rfl
    exact absurd hbeyond (by decide)
  refine ⟨r.build a 0, ?_, ?_⟩
  · rw [readTxn, decode_eq_ok_iff, headerAddr_readHeader]
    exact ⟨hclean, r, hrow, rfl, hwf⟩
  · rw [hexec, if_neg hperf, State.respond]

section
variable {a : BitVec 16} (halign : a.toNat % 4 = 0) (s : State)
include halign

theorem read_capI (h : 0x400 ≤ a.toNat ∧ a.toNat < 0x800) :
    ReadReturns a s (rdataSigned8 (entry s.capI ((a.toNat - 0x400) / 4))) := by
  have hindex : (windowIndex 8 0x0400#16 a).toNat = (a.toNat - 0x400) / 4 := windowIndex_toNat 8 0x0400#16 a h.1 h.2
  have hrow : rowOf (readHeader a) = some capIRow := by
    apply rowOf_capI <;> rw [readHeader_toNat] <;> assumption
  refine readReturns_of_row halign (by omega) hrow rfl ?_
  exact congrArg (fun k => Host.Outcome.next (s.respond (rdataSigned8 (entry s.capI k)))) hindex

theorem read_capQ (h : 0x800 ≤ a.toNat ∧ a.toNat < 0xC00) :
    ReadReturns a s (rdataSigned8 (entry s.capQ ((a.toNat - 0x800) / 4))) := by
  have hindex : (windowIndex 8 0x0800#16 a).toNat = (a.toNat - 0x800) / 4 := windowIndex_toNat 8 0x0800#16 a h.1 h.2
  have hrow : rowOf (readHeader a) = some capQRow := by
    apply rowOf_capQ <;> rw [readHeader_toNat] <;> assumption
  refine readReturns_of_row halign (by omega) hrow rfl ?_
  exact congrArg (fun k => Host.Outcome.next (s.respond (rdataSigned8 (entry s.capQ k)))) hindex

theorem read_audioOut (h : 0x1000 ≤ a.toNat ∧ a.toNat < 0x1000 + 4 * Config.chip.outCap) :
    ReadReturns a s (rdataUnsigned (entry s.audioOut ((a.toNat - 0x1000) / 4))) := by
  have hcap : Config.chip.outCap = 404 := rfl
  have htop : a.toNat < 0x2000 := by omega
  have hindex : (windowIndex 10 0x1000#16 a).toNat = (a.toNat - 0x1000) / 4 := windowIndex_toNat 10 0x1000#16 a h.1 htop
  rw [← readHeader_toNat] at h htop
  have hrow : rowOf (readHeader a) = some audioRow := rowOf_audio (by rwa [readHeader_toNat]) ⟨h.1, htop⟩
  have hwf := (audioRow_wf_iff 0 h.1 htop).mpr h.2
  rw [headerAddr_readHeader] at hwf
  rw [readHeader_toNat] at h
  refine readReturns_of_row halign (by omega) hrow hwf ?_
  exact congrArg (fun k => Host.Outcome.next (s.respond (rdataUnsigned (entry s.audioOut k)))) hindex

end

/-- Every address is one of a readable word, which its read returns, or one that no read may name. -/
theorem read_word_or_illegal (a : BitVec 16) (s : State) :
    (∃ v, peekWord s a = some v ∧ ReadReturns a s v) ∨ (peekWord s a = none ∧ ¬ LegalHeader (readHeader a)) := by
  by_cases hreg : a.toNat ∈ readableRegisters
  · have hread := read_register s a.toNat hreg
    rw [BitVec.ofNat_toNat, BitVec.setWidth_eq] at hread
    exact .inl hread
  rw [peekWord_of_not_register hreg]
  by_cases halign : a.toNat % 4 = 0
  · rw [if_neg (not_not.mpr halign)]
    by_cases hcapI : 0x400 ≤ a.toNat ∧ a.toNat < 0x800
    · exact .inl ⟨_, if_pos hcapI, read_capI halign s hcapI⟩
    rw [if_neg hcapI]
    by_cases hcapQ : 0x800 ≤ a.toNat ∧ a.toNat < 0xC00
    · exact .inl ⟨_, if_pos hcapQ, read_capQ halign s hcapQ⟩
    rw [if_neg hcapQ]
    by_cases haudio : 0x1000 ≤ a.toNat ∧ a.toNat < 0x1000 + 4 * Config.chip.outCap
    · exact .inl ⟨_, if_pos haudio, read_audioOut halign s haudio⟩
    · rw [if_neg haudio]
      refine .inr ⟨rfl, fun hlegal => ?_⟩
      obtain ⟨-, ⟨hle, hne⟩ | hcap | haudio'⟩ := legalHeader_read_iff.mp hlegal
      · exact hreg (mem_readableRegisters halign hle hne)
      · omega
      · exact haudio haudio'
  · exact .inr ⟨if_pos halign, fun hlegal => halign (legalHeader_read_iff.mp hlegal).1⟩

/-- Settles O10, by `read_word_or_illegal`: where the address map names no word the header is not legal, so by O5 it does not
decode. -/
theorem readsAgreeWithTheAddressMap : Obligations.ReadsAgreeWithTheAddressMap := by
  unfold Obligations.ReadsAgreeWithTheAddressMap
  intro a s
  rcases read_word_or_illegal a s with ⟨v, hpeek, hread⟩ | ⟨hpeek, hillegal⟩ <;> rw [hpeek]
  · exact hread
  · cases hdec : decode (readTxn a) with
    | error e => exact ⟨e, rfl⟩
    | ok i => exact absurd ((legalHeadersAreThoseOfTheAddressMap (readHeader a) 0).mp ⟨i, hdec⟩) hillegal

end Sys2Proof.Machine
end

section
/-!
PROOFS. The encoder against the decoder: every transaction is read back from its words, every legal header is written back, and a
header outside the address map raises BusError alone.
-/
namespace Sys2Proof.Machine

/-! ### The windows' addresses (R144) -/

/-- Byte address of entry `k` of a window that begins at `base`, as the encoder writes it (R144). -/
abbrev windowAddr {w : Nat} (base : BitVec 16) (k : BitVec w) : BitVec 16 := base + (k.setWidth 16 <<< 2)

theorem windowAddr_toNat {w : Nat} (base : BitVec 16) (k : BitVec w) (hfit : base.toNat + 2 ^ w * 4 ≤ 2 ^ 16) :
    (windowAddr base k).toNat = base.toNat + 4 * k.toNat := by
  have hk := k.isLt
  have hshift : (k.setWidth 16 <<< 2).toNat = 4 * k.toNat := by
    rw [BitVec.toNat_shiftLeft, BitVec.toNat_setWidth, Nat.shiftLeft_eq]
    omega
  rw [windowAddr, BitVec.toNat_add, hshift]
  omega

/-- The decoder's index of an entry's address is the entry (R144). -/
theorem windowIndex_windowAddr {w : Nat} (base : BitVec 16) (k : BitVec w) (hfit : base.toNat + 2 ^ w * 4 ≤ 2 ^ 16) :
    windowIndex w base (windowAddr base k) = k := by
  have hk := k.isLt
  have haddr := windowAddr_toNat base k hfit
  apply BitVec.eq_of_toNat_eq
  rw [windowIndex_toNat w base _ (by omega) (by omega)]
  omega

/-- The address of the entry that the decoder reads from a word-aligned window address is that address. -/
theorem windowAddr_windowIndex (w : Nat) (base a : BitVec 16) (hfit : base.toNat + 2 ^ w * 4 ≤ 2 ^ 16)
    (halign : (a.toNat - base.toNat) % 4 = 0) (hlo : base.toNat ≤ a.toNat) (hhi : a.toNat < base.toNat + 2 ^ w * 4) :
    windowAddr base (windowIndex w base a) = a := by
  apply BitVec.eq_of_toNat_eq
  rw [windowAddr_toNat base _ hfit, windowIndex_toNat w base a hlo hhi]
  omega

/-! ### Decoding what the encoder writes (R140, R142) -/

/-- A word-aligned read decodes to what its row builds, when its operands are well formed. -/
theorem decode_readTxn_of_row {r : OpRow} {a : BitVec 16} (halign : a.toNat % 4 = 0)
    (hrow : rowOf (readHeader a) = some r) (hwf : (r.build a 0).wf Config.chip.outCap = true) :
    decode (readTxn a) = .ok (r.build a 0) := by
  have hclean : CleanFields (readHeader a) := by
    have hlt := a.isLt
    rw [cleanFields_iff, readHeader_toNat]
    omega
  rw [readTxn, decode_eq_ok_iff, headerAddr_readHeader]
  exact ⟨hclean, r, hrow, rfl, hwf⟩

/-- A window whose reads have the row that builds `f` of the index reads entry `k` back as `f k` (R144). -/
theorem decode_windowEntry {w : Nat} {base : BitVec 16} {m mask : Word} {f : BitVec w → Instr} (k : BitVec w)
    (hbase : base.toNat % 4 = 0) (hfit : base.toNat + 2 ^ w * 4 ≤ 2 ^ 16)
    (hrow : ∀ {h : Word}, h.toNat % 4 = 0 → base.toNat ≤ h.toNat ∧ h.toNat < base.toNat + 2 ^ w * 4 →
      rowOf h = some ⟨m, mask, fun a _ => f (windowIndex w base a)⟩)
    (hwf : (f k).wf Config.chip.outCap = true) : decode (readTxn (windowAddr base k)) = .ok (f k) := by
  have haddr := windowAddr_toNat base k hfit
  have hindex : f (windowIndex w base (windowAddr base k)) = f k := congrArg f (windowIndex_windowAddr base k hfit)
  have hk := k.isLt
  have hentry := @hrow (readHeader (windowAddr base k))
  rw [readHeader_toNat] at hentry
  have hdec : decode (readTxn (windowAddr base k)) = .ok (f (windowIndex w base (windowAddr base k))) :=
    decode_readTxn_of_row (by omega) (hentry (by omega) (by omega)) ((congrArg (Instr.wf Config.chip.outCap) hindex).trans hwf)
  rwa [hindex] at hdec

/-- The words of a write decode to the transaction of its row, whatever the data word. -/
theorem decode_writeTxn {a : BitVec 16} {f : Word → Instr} (data : Word) (hclean : CleanFields (writeHeader a))
    (hrow : rowOf (writeHeader a) = some ⟨writeHeader a, BitVec.allOnes 32, fun _ data => f data⟩)
    (hwf : (f data).wf Config.chip.outCap = true) : decode (writeTxn a data) = .ok (f data) := by
  rw [writeTxn, decode_eq_ok_iff]
  exact ⟨hclean, _, hrow, rfl, hwf⟩

/-- Settles O7: a register's header has one row, found by evaluation for any data word; a window's row reads its index back. -/
theorem decodeReadsBackEveryEncodedTransaction : Obligations.DecodeReadsBackEveryEncodedTransaction := by
  unfold Obligations.DecodeReadsBackEveryEncodedTransaction
  intro i hwf
  cases i
  case rdCapI k => exact decode_windowEntry k (by decide) (by decide) rowOf_capI rfl
  case rdCapQ k => exact decode_windowEntry k (by decide) (by decide) rowOf_capQ rfl
  case rdAudioOut k => exact decode_windowEntry k (by decide) (by decide) rowOf_audio hwf
  case wrStatus data | wrFreqOffset data | wrMode data | wrBandwidth data | wrAgcSpeed data | wrCwSidetone data | wrGainCal data
      | wrVolume data | wrSquelch data | wrIqSwap data | wrPwmMax data | pushCode data =>
    exact decode_writeTxn data (by decide) (by rfl) rfl
  all_goals rfl

/-! ### Encoding what the decoder reads (R140, R142, R144) -/

/-- The encoder writes back the words of a transaction, a read's data word apart. -/
abbrev WritesBack (i : Instr) (h data : Word) : Prop :=
  (encode i).header = h ∧ (i.isWrite = true → encode i = ⟨h, data⟩)

/-- The row of a register writes its own header, and the row of a write its data word too. -/
theorem registerRow_writesBack :
    ∀ r ∈ registerRows, ∀ (a : BitVec 16) (data : Word), WritesBack (r.build a data) r.matchBits data := by
  simp [registerRows, opRows, opRows1, opRows2, opRows3, encode, Instr.isWrite, WritesBack, readTxn, writeTxn,
    readHeader, writeHeader]

theorem readHeader_headerAddr {h : Word} (hlt : h.toNat < 2 ^ 16) : readHeader (headerAddr h) = h := by
  apply BitVec.eq_of_toNat_eq
  rw [readHeader_toNat, headerAddr_toNat, Nat.mod_eq_of_lt hlt]

/-- A word-aligned header in a window of `2 ^ w` entries at `base` is the header of the entry the decoder reads from it. -/
theorem readHeader_windowAddr (w : Nat) (base : BitVec 16) {h : Word} (hbase : base.toNat % 4 = 0)
    (hfit : base.toNat + 2 ^ w * 4 ≤ 2 ^ 16) (halign : h.toNat % 4 = 0)
    (hit : base.toNat ≤ h.toNat ∧ h.toNat < base.toNat + 2 ^ w * 4) :
    readHeader (windowAddr base (windowIndex w base (headerAddr h))) = h := by
  obtain ⟨hlo, hhi⟩ := hit
  have haddr : (headerAddr h).toNat = h.toNat := by rw [headerAddr_toNat]; omega
  rw [windowAddr_windowIndex w base _ hfit (by omega) (by omega) (by omega), readHeader_headerAddr (by omega)]

/-- The row the decoder takes for a clean header writes the header back. -/
theorem row_writesBack {h : Word} {r : OpRow} (data : Word) (halign : h.toNat % 4 = 0) (hrow : rowOf h = some r) :
    WritesBack (r.build (headerAddr h) data) h data := by
  obtain ⟨hr, hit⟩ := rowOf_some hrow
  rcases (mem_opRows r).mp hr with hreg | rfl | rfl | rfl
  · obtain rfl := (registerRow_hit_iff hreg h).mp hit
    exact registerRow_writesBack r hreg _ data
  · exact ⟨readHeader_windowAddr 8 0x0400#16 (by decide) (by decide) halign ((capIRow_hit_iff halign).mp hit), nofun⟩
  · exact ⟨readHeader_windowAddr 8 0x0800#16 (by decide) (by decide) halign ((capQRow_hit_iff halign).mp hit), nofun⟩
  · exact ⟨readHeader_windowAddr 10 0x1000#16 (by decide) (by decide) halign ((audioRow_hit_iff halign).mp hit), nofun⟩

/-- Settles O8, by `row_writesBack` for the row that `decode_eq_ok_iff` gives. -/
theorem encodeWritesBackEveryDecodedTransaction : Obligations.EncodeWritesBackEveryDecodedTransaction := by
  unfold Obligations.EncodeWritesBackEveryDecodedTransaction
  intro t i hdec
  obtain ⟨hclean, r, hrow, rfl, hwf⟩ := (decode_eq_ok_iff t.header t.data i).mp hdec
  obtain ⟨-, halign⟩ := (cleanFields_iff t.header).mp hclean
  obtain ⟨hheader, hwrite⟩ := row_writesBack t.data halign hrow
  exact ⟨hheader, hwrite, hwf⟩

/-! ### Illegal headers (R147) -/

/-- A header outside the address map does not decode (R142, R147). -/
theorem decode_error_of_not_legal {h : Word} (data : Word) (hillegal : ¬ LegalHeader h) : ∃ e, decode ⟨h, data⟩ = .error e := by
  cases hdec : decode ⟨h, data⟩ with
  | error e => exact ⟨e, rfl⟩
  | ok i => exact absurd ((legalHeadersAreThoseOfTheAddressMap h data).mp ⟨i, hdec⟩) hillegal

/-- Settles O6: by O5 the header does not decode, so the step is BusError on the rest of the queue. -/
theorem illegalTransactionRaisesBusErrorAlone : Obligations.IllegalTransactionRaisesBusErrorAlone := by
  unfold Obligations.IllegalTransactionRaisesBusErrorAlone
  intro h data s hillegal
  obtain ⟨e, hdec⟩ := decode_error_of_not_legal data hillegal
  rw [step_of_head rfl, perform_illegal _ hdec, busError_eq]
  rfl

end Sys2Proof.Machine
end

section
/-!
PROOFS. The write transactions: the stored value of each, the nearest-integer words of the tuning formulas, the mode entered, and the
engine step of PUSH_CODE.
-/
namespace Sys2Proof.Machine

/-! ### The flags and the settings (R410, R417 to R432) -/

/-- Settles O11: by `clearMask_getLsbD`, which holds of every bit. -/
theorem wrStatusClearsTheMaskedFlags : Obligations.WrStatusClearsTheMaskedFlags := by
  unfold Obligations.WrStatusClearsTheMaskedFlags
  exact fun data s => ⟨_, exec_wrStatus data s, fun b _ => clearMask_getLsbD s.status data b, rfl⟩

/-- Settles O15: form `opaque32` is the data word itself (R143), so each write is its record update. -/
theorem opaqueWritesStoreTheWholeWord : Obligations.OpaqueWritesStoreTheWholeWord := by
  unfold Obligations.OpaqueWritesStoreTheWholeWord
  exact fun data s => ⟨rfl, rfl, rfl, rfl⟩

/-- A value clamped to the largest number of `w` bits is stored whole. -/
theorem toNat_ofNat_min (w n : Nat) : (BitVec.ofNat w (min n (2 ^ w - 1))).toNat = min n (2 ^ w - 1) := by
  have hpos := Nat.two_pow_pos w
  rw [BitVec.toNat_ofNat]
  exact Nat.mod_eq_of_lt (by omega)

theorem formBit0_toNat (data : Word) : (formBit0 data).toNat = data.toNat % 2 := by
  rw [formBit0, BitVec.extractLsb'_toNat, Nat.shiftRight_zero]

/-- Settles O16: the bounds 3 and 65535 are the largest numbers of the two registers. -/
theorem clampedWritesStoreTheNearestLegalValue : Obligations.ClampedWritesStoreTheNearestLegalValue := by
  unfold Obligations.ClampedWritesStoreTheNearestLegalValue
  intro data s
  exact ⟨⟨_, toNat_ofNat_min 2 data.toNat, rfl⟩, ⟨_, formBit0_toNat data, rfl⟩, ⟨_, toNat_ofNat_min 16 data.toNat, rfl⟩⟩

/-! ### The words of the tuning formulas (R255, R342) -/

theorem reg32_chip (v : Int) : ((reg32 Config.chip.wPhase v).toNat : Int) = v % 2 ^ Config.chip.wPhase := by
  rw [reg32_toNat _ _ (by decide), umod_cast]

/-- The absolute value of `rhaz` is that of `num / den` rounded to a nearest integer, a tie upward (R11). -/
theorem abs_rhaz (num : Int) (den : Nat) : |rhaz num den| = (2 * |num| + den) / (2 * den) := by
  have hquot : ∀ m : Int, 0 ≤ m → 0 ≤ (2 * m + den) / (2 * (den : Int)) := fun m hm =>
    Int.ediv_nonneg (by omega) (by omega)
  unfold rhaz
  split
  case isTrue h => rw [abs_of_nonneg h, abs_of_nonneg (hquot num h)]
  case isFalse h => rw [abs_of_neg (not_le.mp h), abs_neg, abs_of_nonneg (hquot (-num) (by omega))]

/-- `|rhaz|` is the integer `q` with `q - 1/2 ≤ |num / den| < q + 1/2`. -/
theorem abs_rhaz_bounds (num : Int) (den : Nat) (hden : 0 < den) :
    2 * |num| < (2 * |rhaz num den| + 1) * den ∧ (2 * |rhaz num den| - 1) * den ≤ 2 * |num| := by
  have hpos : (0 : Int) < 2 * den := by omega
  rw [abs_rhaz]
  have hlo := Int.ediv_mul_le (2 * |num| + den) hpos.ne'
  have hhi := Int.lt_ediv_add_one_mul_self (2 * |num| + den) hpos
  constructor <;> linarith

/-- `rhaz` keeps the sign of a rational that is 0 or at least 1/2 in absolute value. -/
theorem rhaz_nonneg_iff (num : Int) (den : Nat) (hden : 0 < den) (hbig : num < 0 → (den : Int) ≤ 2 * -num) :
    0 ≤ rhaz num den ↔ 0 ≤ num := by
  have hpos : (0 : Int) < 2 * den := by omega
  unfold rhaz
  split
  case isTrue h => exact iff_of_true (Int.ediv_nonneg (by omega) hpos.le) h
  case isFalse h =>
    have hquot : 1 ≤ (2 * -num + den) / (2 * (den : Int)) := by
      rw [Int.le_ediv_iff_mul_le hpos]
      have := hbig (by omega)
      omega
    exact iff_of_false (by omega) h

/-! ### Tuning (R255, R412) -/

/-- The frequency word before it is reduced to its register (R255). -/
def freqSteps (c : Config) (f : Int) : Int := rhaz (f * 2 ^ c.wPhase) c.fS

theorem freqWordOf_toNat (f : Int) :
    ((freqWordOf Config.chip f).toNat : Int) = freqSteps Config.chip f % 2 ^ Config.chip.wPhase :=
  reg32_chip (freqSteps Config.chip f)

theorem freqSteps_bounds (c : Config) (f : Int) (hfS : 0 < c.fS) :
    2 * |f| * 2 ^ c.wPhase < (2 * |freqSteps c f| + 1) * c.fS ∧
    (2 * |freqSteps c f| - 1) * c.fS ≤ 2 * |f| * 2 ^ c.wPhase := by
  have habs : 2 * |f * 2 ^ c.wPhase| = 2 * |f| * 2 ^ c.wPhase := by rw [abs_mul, abs_of_pos (pow2_pos _), mul_assoc]
  have hbounds := abs_rhaz_bounds (f * 2 ^ c.wPhase) c.fS hfS
  rwa [habs, ← freqSteps] at hbounds

/-- Where the phase has at least half as many steps as the second has samples, an offset of 1 Hz is at least half a step, so the word
keeps the sign of the offset. -/
theorem freqSteps_nonneg_iff (c : Config) (f : Int) (hfS : 0 < c.fS) (hfine : c.fS ≤ 2 * 2 ^ c.wPhase) :
    0 ≤ freqSteps c f ↔ 0 ≤ f := by
  have hpow := pow2_pos c.wPhase
  have hbig : f * 2 ^ c.wPhase < 0 → (c.fS : Int) ≤ 2 * -(f * 2 ^ c.wPhase) := fun hneg => by
    have hf : f < 0 := neg_of_mul_neg_left hneg hpow.le
    have hfine' : (c.fS : Int) ≤ 2 * 2 ^ c.wPhase := by exact_mod_cast hfine
    nlinarith
  rw [freqSteps, rhaz_nonneg_iff _ _ hfS hbig]
  exact mul_nonneg_iff_of_pos_right hpow

theorem clampOffset_chip (v : Int) : clampOffset Config.chip v =
    max (-((Config.chip.fS : Int) / 2)) (min v ((Config.chip.fS : Int) / 2)) := by
  have hfS : Config.chip.fS = 500000 := rfl
  rw [clampOffset, clamp, hfS]
  omega

/-- The stored offset is within half the sample rate, so the register holds it exactly. -/
theorem tune_freqOffset (v : Int) (s : State) : (tune Config.chip v s).freqOffset.toInt = clampOffset Config.chip v := by
  have hfS : Config.chip.fS = 500000 := rfl
  have hclamp := clampOffset_chip v
  exact toInt_ofInt32 _ (by omega)

/-- Settles O12: the word is `freqSteps` of the offset stored; F_S is far below 2^W_PHASE, so the sign of the offset is never rounded
away. -/
theorem wrFreqOffsetClampsAndTunes : Obligations.WrFreqOffsetClampsAndTunes := by
  unfold Obligations.WrFreqOffsetClampsAndTunes
  intro data s
  have hsign := freqSteps_nonneg_iff Config.chip (clampOffset Config.chip data.toInt) (by decide) (by decide)
  exact ⟨(tune Config.chip data.toInt s).noResponse, clampOffset Config.chip data.toInt,
    freqSteps Config.chip (clampOffset Config.chip data.toInt), rfl, rfl, tune_freqOffset data.toInt s, freqWordOf_toNat _,
    clampOffset_chip _, hsign.symm, freqSteps_bounds Config.chip _ (by decide)⟩

/-! ### The sidetone (R342, R421) -/

/-- The stored sidetone is at most half the demodulator's rate, so the register holds it exactly. -/
theorem setSidetone_cwSidetone (v : Nat) (s : State) :
    (setSidetone Config.chip v s).cwSidetone.toNat = clampSidetone Config.chip v := by
  have hhalf : Config.chip.fS / (2 * Config.chip.rTotal) = 6250 := rfl
  rw [setSidetone, clampSidetone, hhalf, BitVec.toNat_ofNat]
  omega

/-- Of a rational from 0 up `rhaz` is the nearest natural number, a tie upward. -/
theorem rhaz_natCast (num den : Nat) : rhaz (num : Int) den = ((2 * num + den) / (2 * den) : Nat) := by
  rw [rhaz, if_pos (Int.natCast_nonneg num)]
  push_cast
  rfl

/-- The increment before it is reduced to its register: the natural number nearest to `f * 2^W_PHASE * R_TOTAL / F_S`, a tie upward
(R342). -/
def sidetoneSteps (c : Config) (f : Nat) : Nat := (2 * (f * 2 ^ c.wPhase * c.rTotal) + c.fS) / (2 * c.fS)

theorem sidetoneIncOf_toNat (f : Nat) :
    (sidetoneIncOf Config.chip f).toNat = sidetoneSteps Config.chip f % 2 ^ Config.chip.wPhase := by
  have hsteps : rhaz (f * 2 ^ Config.chip.wPhase * Config.chip.rTotal) Config.chip.fS = (sidetoneSteps Config.chip f : Int) := by
    exact_mod_cast rhaz_natCast (f * 2 ^ Config.chip.wPhase * Config.chip.rTotal) Config.chip.fS
  have hreg := reg32_chip (sidetoneSteps Config.chip f)
  rw [sidetoneIncOf, hsteps]
  exact_mod_cast hreg

theorem sidetoneSteps_bounds (c : Config) (f : Nat) (hfS : 0 < c.fS) :
    2 * f * 2 ^ c.wPhase * c.rTotal < (2 * sidetoneSteps c f + 1) * c.fS ∧
    2 * sidetoneSteps c f * c.fS ≤ 2 * f * 2 ^ c.wPhase * c.rTotal + c.fS := by
  have hassoc : 2 * f * 2 ^ c.wPhase * c.rTotal = 2 * (f * 2 ^ c.wPhase * c.rTotal) := by ring
  have hle := Nat.div_mul_le_self (2 * (f * 2 ^ c.wPhase * c.rTotal) + c.fS) (2 * c.fS)
  have hlt := Nat.lt_div_mul_add (a := 2 * (f * 2 ^ c.wPhase * c.rTotal) + c.fS) (b := 2 * c.fS) (by omega)
  rw [← sidetoneSteps] at hle hlt
  rw [hassoc]
  constructor <;> linarith

/-- Settles O13: the frequency fits its register, and the increment is `sidetoneSteps` of what is stored. -/
theorem wrCwSidetoneClampsAndSetsTheIncrement : Obligations.WrCwSidetoneClampsAndSetsTheIncrement := by
  unfold Obligations.WrCwSidetoneClampsAndSetsTheIncrement
  intro data s
  have hbounds := sidetoneSteps_bounds Config.chip (clampSidetone Config.chip data.toNat) (by decide)
  refine ⟨(setSidetone Config.chip data.toNat s).noResponse, sidetoneSteps Config.chip (clampSidetone Config.chip data.toNat),
    rfl, rfl, setSidetone_cwSidetone data.toNat s, sidetoneIncOf_toNat _, ?_⟩
  rwa [noResponse_cwSidetone, setSidetone_cwSidetone]

/-! ### The mode entered (R345, R415) -/

theorem modeOfCode_of_large {v : Nat} (hv : 4 < v) : modeOfCode v = none := by
  unfold modeOfCode
  split
  case h_6 => rfl
  all_goals omega

theorem modeOfCode_modeCode (m : Mode) : modeOfCode (modeCode m) = some m := by
  cases m <;> rfl

/-- WR_MODE of the code of a mode selects that mode. -/
theorem exec_wrMode_of_code {m : Mode} {data : Word} (s : State) (hcode : modeCode m = data.toNat) :
    exec (.wrMode data) s = .next (selectMode Config.chip m s).noResponse := by
  have hmode : writeMode Config.chip data.toNat s = selectMode Config.chip m s := by
    rw [writeMode, ← hcode, modeOfCode_modeCode]
  exact congrArg (fun t : State => Host.Outcome.next t.noResponse) hmode

/-- Settles O14: by the code's mode, which is none above 4, the mode held, or another one, whose group `modeEnter` resets. -/
theorem wrModeEntersTheModeAndResetsItsGroup : Obligations.WrModeEntersTheModeAndResetsItsGroup := by
  unfold Obligations.WrModeEntersTheModeAndResetsItsGroup
  intro data s
  refine ⟨fun hlarge => ?_, fun m hcode => ⟨fun hheld => ?_, fun hother => ?_⟩⟩
  · have hmode : writeMode Config.chip data.toNat s = s := by rw [writeMode, modeOfCode_of_large hlarge]
    exact congrArg (fun t : State => Host.Outcome.next t.noResponse) hmode
  · rw [exec_wrMode_of_code s hcode, selectMode, if_pos hheld]
    rfl
  · rw [exec_wrMode_of_code s hcode, selectMode, if_neg hother]
    cases m <;> rfl

/-! ### The engine step (R200, R437) -/

/-- An engine step writes no configuration register, no draw count and no waiting transaction (R217). -/
theorem engineStep_sameSettings (c : Config) (d : BitVec 16) (s : State) : SameSettings s (engineStep c d s) := by
  rw [engineStep_eq, advanceIndex_eq, beforeIndex_frame]
  constructor <;> rfl

theorem noResponse_sameSettings {s t : State} (h : SameSettings s t) : SameSettings s t.noResponse := { h with }

/-- Settles O21, by what the engine step does to the phase, the index and the settings. -/
theorem pushCodeAdvancesThePhaseAndTheIndex : Obligations.PushCodeAdvancesThePhaseAndTheIndex := by
  unfold Obligations.PushCodeAdvancesThePhaseAndTheIndex
  intro data s
  have hexec := exec_pushCode data s
  have hphase := engineStep_phaseAfter (formCode data) s
  have hidx := engineStep_blkN Config.chip (formCode data) s
  have hsettings := engineStep_sameSettings Config.chip (formCode data) s
  rw [phaseAfter_eq, Nat.one_mul] at hphase
  generalize engineStep Config.chip (formCode data) s = u at *
  exact ⟨u.noResponse, hexec, hphase, hidx, noResponse_sameSettings hsettings, rfl⟩

/-- The registers that the stages after the cascade read are those of the start of the step (R217). -/
theorem finalReady_eq (c : Config) (y : Pair) (s : State) : finalReady c y s =
    match demod c y (ssAccumulate c y s) with
    | (none, d) => d
    | (some a, d) => emit c (pwmScale (c.postAgc (agc c a d).1 s.volume s.squelch) s.pwmMax) c.interp (agc c a d).2 := by
  have hsettings : SameSettings s (demod c y (ssAccumulate c y s)).2 := by
    rw [demod_frame]
    constructor <;> rfl
  unfold finalReady
  generalize demod c y (ssAccumulate c y s) = r at *
  rcases r with ⟨_ | a, d⟩
  · rfl
  · rw [← hsettings.volume, ← hsettings.squelch, ← hsettings.pwmMax]
    rfl

/-- The stages of R200 before the index advances, in order: every one with the registers of the start of the step (R217). -/
theorem beforeIndex_stages (c : Config) (d : BitVec 16) (s : State) : beforeIndex c d s =
    match mainCascade c (mixed c d s) (frontEnd c (inputPair c d s) s) with
    | (none, r) => r
    | (some y, r) =>
      match demod c y (ssAccumulate c y r) with
      | (none, e) => e
      | (some a, e) => emit c (pwmScale (c.postAgc (agc c a e).1 s.volume s.squelch) s.pwmMax) c.interp (agc c a e).2 := by
  have hout : (mainCascade c (mixed c d s) (frontEnd c (inputPair c d s) s)).1 = (mainCall c (mixed c d s) s).out := by
    rw [mainCascade_eq, frontEnd_eq, capturePublish_eq, captureWrite_eq]
    rfl
  have hsettings : SameSettings s (mainCascade c (mixed c d s) (frontEnd c (inputPair c d s) s)).2 := by
    rw [mainCascade_eq, frontEnd_eq, capturePublish_eq, captureWrite_eq]
    constructor <;> rfl
  rw [beforeIndex, ← hout]
  generalize mainCascade c (mixed c d s) (frontEnd c (inputPair c d s) s) = r at *
  rcases r with ⟨_ | y, r⟩
  · rfl
  · rw [← hsettings.volume, ← hsettings.squelch, ← hsettings.pwmMax]
    exact finalReady_eq c y r

/-- Settles O20, by `beforeIndex_stages`; no stage before it moves the index, so the block ends by the index of the start. -/
theorem pushCodeRunsTheStagesInOrder : Obligations.PushCodeRunsTheStagesInOrder := by
  unfold Obligations.PushCodeRunsTheStagesInOrder
  intro data s
  have hidx : (beforeIndex Config.chip (formCode data) s).blkN = s.blkN := by rw [beforeIndex_frame]
  rw [exec_pushCode, engineStep_eq, advanceIndex, hidx, beforeIndex_stages, frontEnd_eq]
  rfl

end Sys2Proof.Machine
end

section
/-!
PROOFS. The mixer (R252, R253): the rotation multiplies the squared length of a pair by that of the table's pair, which lies inside
the circle of 2^15, so no lane leaves the range of the codes; the floor of each lane then moves the square of the length little.
-/
namespace Sys2Proof.Machine

/-! ### The rotation in whole numbers, before the shift (R250, R253) -/

/-- The table's cosine at the index of a phase (R252). -/
def phaseCos (ph : BitVec 32) : Int := cosLut Config.chip (ph.toNat / 2 ^ 22)

/-- The table's sine at the index of a phase (R252). -/
def phaseSin (ph : BitVec 32) : Int := sinLut Config.chip (ph.toNat / 2 ^ 22)

/-- Lane I of the product by the conjugate of the table's pair, at the scale of the table. -/
def rotatedI (ph : BitVec 32) (x : Pair) : Int := x.i.toInt * phaseCos ph + x.q.toInt * phaseSin ph

/-- Lane Q of that product. -/
def rotatedQ (ph : BitVec 32) (x : Pair) : Int := x.q.toInt * phaseCos ph - x.i.toInt * phaseSin ph

/-- The mixer shifts the rotated lanes back by the table's scale and saturates them. -/
theorem ncoRotate_chip (ph : BitVec 32) (x : Pair) : ncoRotate Config.chip ph x =
    ⟨toSample (sat16 (rotatedI ph x / 2 ^ 15)), toSample (sat16 (rotatedQ ph x / 2 ^ 15))⟩ := by
  have hI : x.i.toInt * phaseCos ph - x.q.toInt * -phaseSin ph = rotatedI ph x := by rw [rotatedI]; ring
  have hQ : x.q.toInt * phaseCos ph + x.i.toInt * -phaseSin ph = rotatedQ ph x := by rw [rotatedQ]; ring
  rw [← hI, ← hQ, phaseCos, phaseSin, ← lutIndex_chip]
  rfl

/-- The table's pair at a phase lies on the circle of the amplitude within the rounding of the entries. -/
theorem phase_circle (ph : BitVec 32) : |phaseSin ph ^ 2 + phaseCos ph ^ 2 - 32767 ^ 2| ≤ 46341 := by
  have hidx : ph.toNat / 2 ^ 22 < 1024 := by have := ph.isLt; omega
  obtain ⟨hcircle, -, -⟩ := turnsAt (ph.toNat / 2 ^ 22)
  rw [sinWave_of_lt _ hidx] at hcircle
  exact hcircle

/-- The squared length of the table's pair falls short of the scale's square by at most what the amplitude 2^15 - 1 and the rounding
of the entries take from it: 111876 = 2^30 - 32767^2 + 46341. -/
theorem phase_circle_bounds (ph : BitVec 32) :
    2 ^ 30 - 111876 ≤ phaseSin ph ^ 2 + phaseCos ph ^ 2 ∧ phaseSin ph ^ 2 + phaseCos ph ^ 2 < 2 ^ 30 := by
  have h := abs_le.mp (phase_circle ph)
  omega

/-- The rotation multiplies the squared lengths. -/
theorem rotated_lengthSq (ph : BitVec 32) (x : Pair) : rotatedI ph x ^ 2 + rotatedQ ph x ^ 2 =
    (x.i.toInt ^ 2 + x.q.toInt ^ 2) * (phaseSin ph ^ 2 + phaseCos ph ^ 2) := by
  rw [rotatedI, rotatedQ]
  ring

/-! ### The lanes stay in the range of the codes -/

/-- A lane at most as long as its pair, shifted back, lies in the range of the codes. -/
theorem shifted_bounds {a b : Int} (h : a ^ 2 + b ^ 2 < (2048 * 2 ^ 15) ^ 2) : -2048 ≤ a / 2 ^ 15 ∧ a / 2 ^ 15 ≤ 2047 := by
  have hsq : a ^ 2 < (2048 * 2 ^ 15) ^ 2 := (le_add_of_nonneg_right (sq_nonneg b)).trans_lt h
  have habs := abs_lt_of_sq_lt_sq' hsq (by norm_num)
  omega

/-- A pair at most as long as the largest code stays strictly shorter than that code at the scale of the table. -/
theorem rotated_lengthSq_lt (ph : BitVec 32) (x : Pair) (h : x.i.toInt ^ 2 + x.q.toInt ^ 2 ≤ 2048 ^ 2) :
    rotatedI ph x ^ 2 + rotatedQ ph x ^ 2 < (2048 * 2 ^ 15) ^ 2 := by
  have hcircle := (phase_circle_bounds ph).2
  calc rotatedI ph x ^ 2 + rotatedQ ph x ^ 2
      = (x.i.toInt ^ 2 + x.q.toInt ^ 2) * (phaseSin ph ^ 2 + phaseCos ph ^ 2) := rotated_lengthSq ph x
    _ ≤ 2048 ^ 2 * (phaseSin ph ^ 2 + phaseCos ph ^ 2) := by gcongr
    _ < (2048 * 2 ^ 15) ^ 2 := by linarith

/-- A pair at most as long as the largest code is rotated without saturation. -/
theorem ncoRotate_of_lengthSq_le (ph : BitVec 32) (x : Pair) (h : x.i.toInt ^ 2 + x.q.toInt ^ 2 ≤ 2048 ^ 2) :
    ((ncoRotate Config.chip ph x).i.toInt = rotatedI ph x / 2 ^ 15 ∧
      (ncoRotate Config.chip ph x).q.toInt = rotatedQ ph x / 2 ^ 15) ∧
    (-2048 ≤ rotatedI ph x / 2 ^ 15 ∧ rotatedI ph x / 2 ^ 15 ≤ 2047) ∧
    (-2048 ≤ rotatedQ ph x / 2 ^ 15 ∧ rotatedQ ph x / 2 ^ 15 ≤ 2047) := by
  have hlt := rotated_lengthSq_lt ph x h
  have hI := shifted_bounds hlt
  have hQ := shifted_bounds ((add_comm _ _).trans_lt hlt)
  rw [ncoRotate_chip]
  refine ⟨⟨?_, ?_⟩, hI, hQ⟩ <;> rw [toSample_sat16] <;> exact sat16_of_mem _ (by omega)

/-- With one lane 0 the squared length is the square of the other lane. -/
theorem lengthSq_of_lane_zero {x : Pair} (h : x.i = 0 ∨ x.q = 0) :
    x.i.toInt ^ 2 + x.q.toInt ^ 2 = |x.i.toInt + x.q.toInt| ^ 2 := by
  rcases h with h | h <;> simp [h]

theorem abs_lane_le {x : Pair} (h : x.i = 0 ∨ x.q = 0) (hi : -2048 ≤ x.i.toInt ∧ x.i.toInt ≤ 2047)
    (hq : -2048 ≤ x.q.toInt ∧ x.q.toInt ≤ 2047) : |x.i.toInt + x.q.toInt| ≤ 2048 := by
  have hzero : x.i.toInt = 0 ∨ x.q.toInt = 0 := h.imp (congrArg BitVec.toInt) (congrArg BitVec.toInt)
  rw [abs_le]
  omega

/-- Such a pair, its lanes codes, is at most as long as the largest code. -/
theorem lengthSq_le_of_lane_zero {x : Pair} (h : x.i = 0 ∨ x.q = 0) (hi : -2048 ≤ x.i.toInt ∧ x.i.toInt ≤ 2047)
    (hq : -2048 ≤ x.q.toInt ∧ x.q.toInt ≤ 2047) : x.i.toInt ^ 2 + x.q.toInt ^ 2 ≤ 2048 ^ 2 :=
  (lengthSq_of_lane_zero h).trans_le (pow_le_pow_left₀ (abs_nonneg _) (abs_lane_le h hi hq) 2)

/-- Settles O30, by the length of the rotated pair. -/
theorem mixerRotatesWithoutSaturating : Obligations.MixerRotatesWithoutSaturating := by
  unfold Obligations.MixerRotatesWithoutSaturating
  intro ph x hzero hi hq
  obtain ⟨⟨hyi, hyq⟩, ⟨hilo, hihi⟩, hqlo, hqhi⟩ := ncoRotate_of_lengthSq_le ph x (lengthSq_le_of_lane_zero hzero hi hq)
  dsimp only
  rw [hyi, hyq]
  exact ⟨rfl, rfl, hilo, hihi, hqlo, hqhi⟩

/-! ### The length after the floors (R258) -/

/-- How far the floor moves the square of a scaled lane. -/
theorem abs_floor_sq_sub_sq_le (a d : Int) (hd : 0 < d) : |(d * (a / d)) ^ 2 - a ^ 2| ≤ d * (2 * |a| + d) := by
  have hmod := Int.mul_ediv_add_emod a d
  have hlo := Int.emod_nonneg a hd.ne'
  have hhi := Int.emod_lt_of_pos a hd
  have hdiff : |d * (a / d) - a| ≤ d := by rw [abs_le]; omega
  have hsum : |d * (a / d) + a| ≤ 2 * |a| + d :=
    calc |d * (a / d) + a| = |2 * a + (d * (a / d) - a)| := by ring_nf
      _ ≤ |2 * a| + |d * (a / d) - a| := abs_add_le _ _
      _ ≤ 2 * |a| + d := by rw [abs_mul]; gcongr; rfl
  calc |(d * (a / d)) ^ 2 - a ^ 2| = |d * (a / d) - a| * |d * (a / d) + a| := by rw [← abs_mul]; ring_nf
    _ ≤ d * (2 * |a| + d) := by gcongr

/-- The lanes of a rotated pair together: the scale times the length, by at most the square root of 2, below 3/2. -/
theorem rotated_abs_add_le (ph : BitVec 32) (x : Pair) (v : Int) (hv : 0 ≤ v)
    (h : x.i.toInt ^ 2 + x.q.toInt ^ 2 = v ^ 2) : 2 * (|rotatedI ph x| + |rotatedQ ph x|) ≤ 3 * 2 ^ 15 * v := by
  have hcircle := (phase_circle_bounds ph).2
  refine le_of_sq_le_sq ?_ (by omega)
  calc (2 * (|rotatedI ph x| + |rotatedQ ph x|)) ^ 2
      = 4 * (|rotatedI ph x| + |rotatedQ ph x|) ^ 2 := by ring
    _ ≤ 4 * (2 * (|rotatedI ph x| ^ 2 + |rotatedQ ph x| ^ 2)) := by gcongr; exact add_sq_le
    _ = 8 * (v ^ 2 * (phaseSin ph ^ 2 + phaseCos ph ^ 2)) := by rw [sq_abs, sq_abs, rotated_lengthSq, h]; ring
    _ ≤ 8 * (v ^ 2 * 2 ^ 30) := by gcongr
    _ ≤ (3 * 2 ^ 15 * v) ^ 2 := by linarith [sq_nonneg v]

/-- The rotation before the shift keeps the length but for the rounding of the table. -/
theorem rotated_lengthSq_bounds (ph : BitVec 32) (x : Pair) (v : Int) (hv : 0 ≤ v ∧ v ≤ 2048)
    (h : x.i.toInt ^ 2 + x.q.toInt ^ 2 = v ^ 2) :
    2 ^ 30 * v ^ 2 - 2 ^ 28 * v ≤ rotatedI ph x ^ 2 + rotatedQ ph x ^ 2 ∧
    rotatedI ph x ^ 2 + rotatedQ ph x ^ 2 ≤ 2 ^ 30 * v ^ 2 := by
  obtain ⟨hlo, hhi⟩ := phase_circle_bounds ph
  have hsq : v ^ 2 ≤ 2048 * v := (sq v).trans_le (mul_le_mul_of_nonneg_right hv.2 hv.1)
  have hloMul := mul_le_mul_of_nonneg_left hlo (sq_nonneg v)
  have hhiMul := mul_le_mul_of_nonneg_left hhi.le (sq_nonneg v)
  rw [rotated_lengthSq, h]
  constructor <;> linarith

/-- The mixer keeps the length of a pair at most as long as the largest code within the floors of its lanes. -/
theorem ncoRotate_lengthSq (ph : BitVec 32) (x : Pair) (v : Int) (hv : 0 ≤ v ∧ v ≤ 2048)
    (h : x.i.toInt ^ 2 + x.q.toInt ^ 2 = v ^ 2) :
    |(ncoRotate Config.chip ph x).i.toInt ^ 2 + (ncoRotate Config.chip ph x).q.toInt ^ 2 - v ^ 2| ≤ 4 * v + 2 := by
  have hlen : x.i.toInt ^ 2 + x.q.toInt ^ 2 ≤ 2048 ^ 2 := h.trans_le (pow_le_pow_left₀ hv.1 hv.2 2)
  obtain ⟨⟨hyi, hyq⟩, -⟩ := ncoRotate_of_lengthSq_le ph x hlen
  have hfloorI := abs_le.mp (abs_floor_sq_sub_sq_le (rotatedI ph x) (2 ^ 15) (by norm_num))
  have hfloorQ := abs_le.mp (abs_floor_sq_sub_sq_le (rotatedQ ph x) (2 ^ 15) (by norm_num))
  have hsum := rotated_abs_add_le ph x v hv.1 h
  have hrot := rotated_lengthSq_bounds ph x v hv h
  rw [mul_pow] at hfloorI hfloorQ
  rw [hyi, hyq, abs_le]
  constructor <;> linarith

/-- Settles O31, by `ncoRotate_lengthSq` with the lane that is not 0 as the length. -/
theorem mixerKeepsTheMagnitude : Obligations.MixerKeepsTheMagnitude := by
  unfold Obligations.MixerKeepsTheMagnitude
  intro ph x hzero hi hq
  exact ncoRotate_lengthSq ph x _ ⟨abs_nonneg _, abs_lane_le hzero hi hq⟩ (lengthSq_of_lane_zero hzero)

end Sys2Proof.Machine
end

section
/-!
PROOFS. The half-band controller (R310 to R319): one equation per way through a cascade, the laws of the collaborators, and the count
of a cascade with the machine's own ones, from which CW is silent until the first sample of its cascade (R499).
-/
namespace Sys2Proof.Machine

/-! ### The three ways through a cascade (R313, R315) -/

section
variable (c : Config) (bw : Word) (r : CicResult) (h1 h2 : Nat)

theorem halfbands_of_cic_none (hcic : r.out = none) : halfbands c bw r h1 h2 = ⟨r.cic, h1, h2, none, r.sat⟩ := by
  rw [halfbands, hcic]

theorem halfbands_of_hb1_none {x1 : Pair} (hcic : r.out = some x1) (hhb1 : (c.hb1.step h1 x1 bw).2 = none) :
    halfbands c bw r h1 h2 = ⟨r.cic, (c.hb1.step h1 x1 bw).1, h2, none, r.sat⟩ := by
  have hcall : c.hb1.step h1 x1 bw = ((c.hb1.step h1 x1 bw).1, none) := Prod.ext rfl hhb1
  rw [halfbands, hcic]
  dsimp only
  rw [hcall]

theorem halfbands_of_hb1_some {x1 x2 : Pair} (hcic : r.out = some x1) (hhb1 : (c.hb1.step h1 x1 bw).2 = some x2) :
    halfbands c bw r h1 h2 =
      ⟨r.cic, (c.hb1.step h1 x1 bw).1, (c.hb2.step h2 x2 bw).1, (c.hb2.step h2 x2 bw).2, r.sat⟩ := by
  have hcall : c.hb1.step h1 x1 bw = ((c.hb1.step h1 x1 bw).1, some x2) := Prod.ext rfl hhb1
  rw [halfbands, hcic]
  dsimp only
  rw [hcall]

/-- The cascade's flag is that of its CIC (R284). -/
theorem halfbands_sat : (halfbands c bw r h1 h2).sat = r.sat := by
  rcases hcic : r.out with _ | x1
  · rw [halfbands_of_cic_none c bw r h1 h2 hcic]
  · rcases hhb1 : (c.hb1.step h1 x1 bw).2 with _ | x2
    · rw [halfbands_of_hb1_none c bw r h1 h2 hcic hhb1]
    · rw [halfbands_of_hb1_some c bw r h1 h2 hcic hhb1]

/-- A CIC sample calls HB1 once, whether or not HB1 gives a sample (R313). -/
theorem halfbands_hb1_of_cic_some {x1 : Pair} (hcic : r.out = some x1) :
    (halfbands c bw r h1 h2).hb1 = (c.hb1.step h1 x1 bw).1 := by
  rcases hhb1 : (c.hb1.step h1 x1 bw).2 with _ | x2
  · rw [halfbands_of_hb1_none c bw r h1 h2 hcic hhb1]
  · rw [halfbands_of_hb1_some c bw r h1 h2 hcic hhb1]

end

/-- Settles O36, by the equation of each way through a cascade and the two cascades as record updates. -/
theorem cascadeCallsAStageOnlyWhenTheOneBeforeIsReady : Obligations.CascadeCallsAStageOnlyWhenTheOneBeforeIsReady := by
  unfold Obligations.CascadeCallsAStageOnlyWhenTheOneBeforeIsReady
  intro c x s
  refine ⟨fun r h1 h2 => ⟨halfbands_cic c _ r h1 h2, halfbands_sat c _ r h1 h2, fun hcic => ?_, fun x1 hcic =>
    ⟨halfbands_hb1_of_cic_some c _ r h1 h2 hcic, fun hhb1 => ?_, fun x2 hhb1 => ?_⟩⟩, rfl, rfl, rfl, ?_, rfl, ?_⟩
  · rw [halfbands_of_cic_none c _ r h1 h2 hcic]
    exact ⟨rfl, rfl, rfl⟩
  · rw [halfbands_of_hb1_none c _ r h1 h2 hcic hhb1]
    exact ⟨rfl, rfl⟩
  · rw [halfbands_of_hb1_some c _ r h1 h2 hcic hhb1]
    exact ⟨rfl, rfl⟩
  · exact congrArg Prod.snd (mainCascade_eq c x s)
  · exact congrArg Prod.snd (cwCascade_eq c x s)

/-! ### The laws of the collaborators (R311, R312, R331, R332, R337) -/

/-- An invariant `after k st` of the state `st` after `k` calls, under which the next call gives a sample exactly when it is an even
one. -/
abbrev CountsCalls (f : Collab) (after : Nat → Nat → Prop) : Prop :=
  after 0 f.init ∧
  (∀ k st x bw, after k st → after (k + 1) (f.step st x bw).1) ∧
  ∀ k st x bw, after k st → ((f.step st x bw).2.isSome = true ↔ (k + 1) % 2 = 0)

/-- The outputs from a state that `n` calls lead to alternate as R311 says. -/
theorem outputs_of_countsCalls {f : Collab} {after : Nat → Nat → Prop} (hf : CountsCalls f after) (xs : List (Pair × Word)) :
    ∀ n st k, after n st → k < xs.length →
      ∃ r, (f.outputs st xs)[k]? = some r ∧ (r.isSome = true ↔ (n + k + 1) % 2 = 0) := by
  obtain ⟨-, hnext, hready⟩ := hf
  induction xs with
  | nil => simp
  | cons x xs ih =>
    intro n st k hst hk
    cases k with
    | zero => exact ⟨_, rfl, hready n st x.1 x.2 hst⟩
    | succ k =>
      obtain ⟨r, hr, hrest⟩ := ih (n + 1) _ k (hnext n st x.1 x.2 hst) (Nat.lt_of_succ_lt_succ hk)
      refine ⟨r, hr, hrest.trans ?_⟩
      rw [Nat.add_right_comm n 1 k, Nat.add_assoc n k 1]

theorem decimatesByTwo_of_countsCalls {f : Collab} {after : Nat → Nat → Prop} (hf : CountsCalls f after) :
    f.DecimatesByTwo := by
  intro xs k hk
  simpa using outputs_of_countsCalls hf xs 0 f.init k hf.1 hk

/-- The parity of the next call. -/
theorem one_sub_mod_two (k : Nat) : 1 - k % 2 = (k + 1) % 2 :=
  Nat.sub_eq_of_eq_add' (Nat.mod_two_add_succ_mod_two k).symm

/-- The low bit of the machine's HB1 counts its calls (entry 3). -/
theorem chipHb1_countsCalls : CountsCalls chipHb1 (fun k st => st % 2 = k % 2) := by
  refine ⟨rfl, fun k st x bw h => ?_, fun k st x bw h => ?_⟩
  · show (2 * Config.freeHb1Next st x bw + (1 - st % 2)) % 2 = (k + 1) % 2
    rw [Nat.mul_add_mod, h, one_sub_mod_two, Nat.mod_mod]
  · have hready : (chipHb1.step st x bw).2.isSome = true ↔ st % 2 = 1 := by simp [chipHb1]
    rw [hready, h, Nat.succ_mod_two_eq_zero_iff]

/-- The state of REF_HB1 counts its calls (R318). -/
theorem refHb1_countsCalls : CountsCalls refHb1 (fun k st => st = k % 2) := by
  refine ⟨rfl, fun k st x bw h => ?_, fun k st x bw h => ?_⟩
  · show 1 - st = (k + 1) % 2
    rw [h, one_sub_mod_two]
  · have hready : (refHb1.step st x bw).2.isSome = true ↔ st = 1 := by simp [refHb1]
    rw [hready, h, Nat.succ_mod_two_eq_zero_iff]

theorem chip_extractorLaws : Config.chip.ExtractorLaws :=
  ⟨show chipMag 0 0 = 0 from if_pos ⟨rfl, rfl⟩, show chipPhase 0 0 = 0 from if_pos ⟨rfl, rfl⟩⟩

/-- Every bit of the root of 0 is refused. -/
theorem isqrtBits_zero (b : Nat) : isqrtBits 0 b 0 = 0 := by
  induction b with
  | zero => rfl
  | succ b ih => simp [isqrtBits, ih]

theorem reference_extractorLaws : Config.reference.ExtractorLaws :=
  ⟨show magRef 0 0 = 0 from congrArg (BitVec.ofNat 16) (isqrtBits_zero 16),
    show phaseRef 0 0 = 0 from if_pos ⟨rfl, rfl⟩⟩

/-- Settles O37: HB1 counts its calls modulo 2 in both configurations, and the other filters always give a sample. -/
theorem collaboratorsKeepTheirLaws : Obligations.CollaboratorsKeepTheirLaws := by
  unfold Obligations.CollaboratorsKeepTheirLaws
  intro c hc
  simp only [List.mem_cons, List.not_mem_nil, or_false] at hc
  rcases hc with rfl | rfl
  · exact ⟨decimatesByTwo_of_countsCalls chipHb1_countsCalls, fun _ _ _ => rfl, fun _ _ _ => rfl, chip_extractorLaws⟩
  · exact ⟨decimatesByTwo_of_countsCalls refHb1_countsCalls, fun _ _ _ => rfl, fun _ _ _ => rfl, reference_extractorLaws⟩

/-! ### The count of a cascade with the machine's own filters (R282, R311, R319) -/

theorem succ_mod_div_of_lt {n r : Nat} (h : n % r + 1 < r) : (n + 1) % r = n % r + 1 ∧ (n + 1) / r = n / r := by
  have hsum : n % r + 1 + r * (n / r) = n + 1 := by rw [Nat.add_right_comm, Nat.mod_add_div]
  exact ((Nat.div_mod_unique (Nat.zero_lt_of_lt h)).mpr ⟨hsum, h⟩).symm

theorem succ_mod_div_of_le {n r : Nat} (hr : 0 < r) (h : r ≤ n % r + 1) : (n + 1) % r = 0 ∧ (n + 1) / r = n / r + 1 := by
  have hlast : n % r + 1 = r := Nat.le_antisymm (Nat.mod_lt n hr) h
  have hsum : 0 + r * (n / r + 1) = n + 1 := by
    calc 0 + r * (n / r + 1) = r * (n / r) + r := by rw [Nat.zero_add, Nat.mul_succ]
      _ = r * (n / r) + (n % r + 1) := by rw [hlast]
      _ = n + 1 := by rw [← Nat.add_assoc, Nat.div_add_mod]
  exact ((Nat.div_mod_unique hr).mpr ⟨hsum, hr⟩).symm

/-- A cascade that stands as after `n` calls, its CIC counter at `n` modulo the factor and HB1's phase at the CIC samples modulo 2,
gives a sample on the next call exactly when that is a `2*r`-th one (R319). -/
theorem halfbands_chip_count (w r sh n : Nat) (bw : Word) (x : Pair) (C : Cic) (h1 h2 : Nat) (hr : 0 < r)
    (hcnt : C.cnt = n % r) (hphase : h1 % 2 = n / r % 2) :
    (halfbands Config.chip bw (cicStep w r sh x C) h1 h2).cic.cnt = (n + 1) % r ∧
    (halfbands Config.chip bw (cicStep w r sh x C) h1 h2).hb1 % 2 = (n + 1) / r % 2 ∧
    ((halfbands Config.chip bw (cicStep w r sh x C) h1 h2).out.isSome = true ↔ (n + 1) % (2 * r) = 0) := by
  have hmod : (n + 1) % (2 * r) = (n + 1) % r + r * ((n + 1) / r % 2) := by rw [Nat.mul_comm, Nat.mod_mul]
  rw [hmod]
  rcases cicStep_cases w r sh x C with ⟨hlt, hstep⟩ | ⟨hle, y, b, hstep⟩ <;> rw [hstep]
  · obtain ⟨hm, hd⟩ := succ_mod_div_of_lt (hcnt ▸ hlt)
    rw [halfbands_none, hm, hd]
    exact ⟨by rw [hcnt], hphase, by simp⟩
  · obtain ⟨hm, hd⟩ := succ_mod_div_of_le hr (hcnt ▸ hle)
    obtain ⟨hflip, hout⟩ := halfbands_chip bw
      ⟨(comb w (integrate w x.i C.laneI)).2, (comb w (integrate w x.q C.laneQ)).2, 0⟩ y b h1 h2
    rw [halfbands_cic, hflip, hout, hm, hd, hphase]
    refine ⟨rfl, one_sub_mod_two _, ?_⟩
    rw [Nat.zero_add, Nat.mul_eq_zero, or_iff_right hr.ne', Nat.succ_mod_two_eq_zero_iff]

/-! ### CW after a change of mode (R340, R341, R345, R499) -/

/-- The CW group as it stands `n` calls after a change into CW: the count of its cascade, and no magnitude before the first sample. -/
abbrev State.CwAfter (n : Nat) (s : State) : Prop :=
  s.cicCw.cnt = n % Config.chip.rCw ∧ s.hb1Cw % 2 = n / Config.chip.rCw % 2 ∧
  (n < 2 * Config.chip.rCw → s.cwMag = 0)

/-- WR_MODE of the code of CW in another mode resets the CW group (R345). -/
theorem exec_wrMode_cw {data : Word} {s : State} (hdata : data.toNat = 4) (hmode : s.mode ≠ .cw) :
    ∃ t, exec (.wrMode data) s = .next t ∧ t.CwAfter 0 := by
  rw [exec_wrMode_of_code (m := .cw) s hdata.symm, selectMode, if_neg hmode.symm]
  exact ⟨_, rfl, rfl, rfl, fun _ => rfl⟩

theorem cwCall_count {n : Nat} {s : State} (h : s.CwAfter n) (x : Pair) :
    (cwCall Config.chip x s).cic.cnt = (n + 1) % Config.chip.rCw ∧
    (cwCall Config.chip x s).hb1 % 2 = (n + 1) / Config.chip.rCw % 2 ∧
    ((cwCall Config.chip x s).out.isSome = true ↔ (n + 1) % (2 * Config.chip.rCw) = 0) := by
  obtain ⟨hcnt, hphase, -⟩ := h
  exact halfbands_chip_count _ _ _ n _ x _ _ _ (Nat.succ_pos 9) hcnt hphase

/-- The CW cascade gives nothing before its `2*R_CW`-th call. -/
theorem cwCall_out_of_lt {n : Nat} {s : State} (h : s.CwAfter n) (x : Pair) (hn : n + 1 < 2 * Config.chip.rCw) :
    (cwCall Config.chip x s).out = none := by
  obtain ⟨-, -, hout⟩ := cwCall_count h x
  rw [Nat.mod_eq_of_lt hn] at hout
  exact Option.not_isSome_iff_eq_none.mp (hout.not.mpr (Nat.succ_ne_zero n))

theorem demodCw_cwAfter {n : Nat} {s : State} (h : s.CwAfter n) (x : Pair) :
    (demodCw Config.chip x s).2.CwAfter (n + 1) := by
  obtain ⟨hcnt, hphase, -⟩ := cwCall_count h x
  have hnone := cwCall_out_of_lt h x
  obtain ⟨-, -, hsilent⟩ := h
  rw [demodCw_eq]
  refine ⟨hcnt, hphase, fun hn => ?_⟩
  rw [hnone hn]
  exact hsilent (Nat.lt_of_succ_lt hn)

theorem foldl_demodCw_cwAfter (xs : List Pair) {n : Nat} {s : State} (h : s.CwAfter n) :
    (xs.foldl (fun v y => (demodCw Config.chip y v).2) s).CwAfter (n + xs.length) := by
  induction xs generalizing n s with
  | nil => exact h
  | cons x xs ih =>
    have hrest := ih (demodCw_cwAfter h x)
    rwa [Nat.add_assoc, Nat.add_comm 1] at hrest

/-- With the magnitude register at 0 and no new sample, the sidetone is scaled to 0 (R341, R343). -/
theorem demodCw_output_zero {c : Config} {x : Pair} {s : State} (hmag : s.cwMag = 0) (hout : (cwCall c x s).out = none) :
    (demodCw c x s).1 = some 0 := by
  simp [demodCw, cwTone, cwCascade_eq, cwMagnitude_eq, hout, hmag, asr, sat16, clamp, toSample]

/-- Settles O45, by the count of the CW cascade along the calls. -/
theorem cwIsSilentUntilItsFirstSample : Obligations.CwIsSilentUntilItsFirstSample := by
  unfold Obligations.CwIsSilentUntilItsFirstSample
  intro data s xs x hdata hmode
  obtain ⟨t, hexec, hentered⟩ := exec_wrMode_cw hdata hmode
  have hcalls := foldl_demodCw_cwAfter xs hentered
  rw [Nat.zero_add] at hcalls
  refine ⟨t, hexec, fun hbefore => ?_, fun hfirst => ?_⟩
  · have hnone := cwCall_out_of_lt hcalls x hbefore
    obtain ⟨-, -, hsilent⟩ := hcalls
    exact ⟨hnone, demodCw_output_zero (hsilent (Nat.lt_of_succ_lt hbefore)) hnone⟩
  · obtain ⟨-, -, hready⟩ := cwCall_count hcalls x
    rw [hfirst, Nat.mod_self] at hready
    exact Option.isSome_iff_ne_none.mp (hready.mpr rfl)

end Sys2Proof.Machine
end

section
/-!
PROOFS. The demodulator (R330 to R346): the rule and the frame of each mode, the AM tracker and its rise, the wrapped FM difference,
the SSB rotations over the Gaussian integers, the CW tone, and what a mode just entered does not see.
-/
namespace Sys2Proof.Machine

/-! ### The stores of a demodulator's output (R11) -/

/-- A saturated store reads back as the value clamped to 16 bits. -/
theorem toSample_sat16_toInt (v : Int) : (toSample (sat16 v)).toInt = max (-32768) (min v 32767) := by
  rw [toSample_sat16, sat16, clamp]
  omega

theorem wrap16_bounds (v : Int) : -32768 ≤ wrap 16 v ∧ wrap 16 v ≤ 32767 := by
  simp only [wrap, sext, ← Nat.cast_lt (α := Int), umod_cast]
  split <;> omega

theorem wrap16_congr (v : Int) : ∃ k : Int, wrap 16 v = v + 65536 * k := by
  simp only [wrap, sext, ← Nat.cast_lt (α := Int), umod_cast]
  split
  · exact ⟨-(v / 65536), by omega⟩
  · exact ⟨-(v / 65536) - 1, by omega⟩

/-! ### The rule and the group of each mode (R330, R346) -/

section
variable (c : Config) (x : Pair) {s : State}

theorem demod_am (h : s.mode = .am) : demod c x s = demodAm c x s := by rw [demod, h]

theorem demod_fm (h : s.mode = .fm) : demod c x s = demodFm c x s := by rw [demod, h]

theorem demod_usb (h : s.mode = .usb) : demod c x s = demodUsb c x s := by rw [demod, h]

theorem demod_lsb (h : s.mode = .lsb) : demod c x s = demodLsb c x s := by rw [demod, h]

theorem demod_cw (h : s.mode = .cw) : demod c x s = demodCw c x s := by rw [demod, h]

end

theorem flagCwCicSat_getLsbD {b : Nat} (hb : b ≠ 3) : flagCwCicSat.getLsbD b = false := by
  have hbit : flagCwCicSat = BitVec.twoPow 6 3 := rfl
  simp [hbit, BitVec.getLsbD_twoPow, hb.symm]

/-- A CW call sets no flag but CW_CIC_SAT (R284, R346). -/
theorem demodCw_status_getLsbD (c : Config) (x : Pair) (s : State) {b : Nat} (hb : b ≠ 3) :
    (demodCw c x s).2.status.getLsbD b = s.status.getLsbD b := by
  rw [demodCw_eq]
  dsimp only
  split
  · rw [BitVec.getLsbD_or, flagCwCicSat_getLsbD hb, Bool.or_false]
  · rfl

/-- Settles O38: each mode's rule is one record update of its group. -/
theorem demodulatorWritesOnlyItsModeGroup : Obligations.DemodulatorWritesOnlyItsModeGroup := by
  unfold Obligations.DemodulatorWritesOnlyItsModeGroup
  intro c x s
  refine ⟨demod_am c x, demod_fm c x, demod_usb c x, demod_lsb c x, demod_cw c x, fun h => ?_, fun h => ?_, fun h => ?_,
    fun h => ⟨?_, fun b hb => ?_⟩⟩
  · rw [demod_am c x h, demodAm]
  · rw [demod_fm c x h, demodFm]
  · rcases h with h | h
    · rw [demod_usb c x h, demodUsb, demodSsb]
    · rw [demod_lsb c x h, demodLsb, demodSsb]
  · rw [demod_cw c x h, demodCw_eq]
  · rw [demod_cw c x h, demodCw_status_getLsbD c x s hb]

/-! ### AM (R333, R347) -/

/-- An update of the tracker below the magnitude `m` moves the estimate toward `m` and never past it. -/
theorem estimate_update_bounds (a m : Int) (k : Nat) (h : a / 2 ^ k ≤ m) :
    a / 2 ^ k ≤ (a + m - a / 2 ^ k) / 2 ^ k ∧ (a + m - a / 2 ^ k) / 2 ^ k ≤ m := by
  have hpos := pow2_pos k
  have hrem := Int.lt_mul_ediv_self_add (x := a) hpos
  refine ⟨Int.ediv_le_ediv hpos (by omega), Int.le_of_lt_add_one (Int.ediv_lt_of_lt_mul hpos ?_)⟩
  nlinarith

theorem kAm_le {c : Config} (hwf : c.Wf) : c.kAm ≤ 15 := by
  obtain ⟨-, -, -, -, -, -, -, -, ⟨-, hk⟩, -⟩ := hwf
  exact hk

section
variable (c : Config) (x : Pair) (s : State)

/-- The tracker's update never wraps in its register (R333). -/
theorem demodAm_amAcc (hk : c.kAm ≤ 15) (hlo : 0 ≤ s.amAcc.toInt) (hhi : s.amAcc.toInt ≤ 65535 * 2 ^ c.kAm) :
    (demodAm c x s).2.amAcc.toInt = s.amAcc.toInt + (c.mag x.i x.q).toNat - s.amAcc.toInt / 2 ^ c.kAm := by
  have hmag := (c.mag x.i x.q).isLt
  have hpow : (2 : Int) ^ c.kAm ≤ 2 ^ 15 := pow_le_pow_right₀ (by decide) hk
  have hleak := sub_asr_le s.amAcc.toInt 65535 c.kAm hhi
  have hasr := asr_bounds s.amAcc.toInt c.kAm hlo
  exact toInt_ofInt32 _ (by omega)

theorem demodAm_output : (demodAm c x s).1 =
    some (toSample (sat16 ((c.mag x.i x.q).toNat - (demodAm c x s).2.amAcc.toInt / 2 ^ c.kAm))) := rfl

end

/-- Settles O39, by the update of the tracker without wrap and the bounds of the estimate. -/
theorem amTracksTheEnvelope : Obligations.AmTracksTheEnvelope := by
  unfold Obligations.AmTracksTheEnvelope
  intro c x s hwf hlo hhi m e
  have hk := kAm_le hwf
  obtain ⟨hlo', hhi'⟩ := demodAm_amAcc_bounds c x s hk ⟨hlo, hhi⟩
  have hacc : (demodAm c x s).2.amAcc.toInt = s.amAcc.toInt + m - e := demodAm_amAcc c x s hk hlo hhi
  have hrise : e ≤ m → e ≤ (demodAm c x s).2.amAcc.toInt / 2 ^ c.kAm ∧ (demodAm c x s).2.amAcc.toInt / 2 ^ c.kAm ≤ m :=
    fun hle => hacc ▸ estimate_update_bounds s.amAcc.toInt m c.kAm hle
  have hout := toSample_sat16_toInt (m - (demodAm c x s).2.amAcc.toInt / 2 ^ c.kAm)
  refine ⟨_, _, Prod.ext (demodAm_output c x s) rfl, rfl, hacc, hlo', hhi', hout, hrise, fun heq => ?_⟩
  obtain ⟨hge, hle⟩ := hrise heq.le
  have hest : (demodAm c x s).2.amAcc.toInt / 2 ^ c.kAm = m := le_antisymm hle (heq ▸ hge)
  refine ⟨hest, BitVec.eq_of_toInt_eq (hout.trans ?_)⟩
  rw [hest, sub_self]
  rfl

/-- On a constant magnitude `m` an empty tracker rises by at least 1 a call up to `m * 2^K_AM` and stays there. -/
theorem demodAm_iterate_amAcc {c : Config} (hk : c.kAm ≤ 15) (x : Pair) {s : State} (hs : s.amAcc = 0) (n : Nat) :
    min (n : Int) ((c.mag x.i x.q).toNat * 2 ^ c.kAm) ≤ ((fun u => (demodAm c x u).2)^[n] s).amAcc.toInt ∧
    ((fun u => (demodAm c x u).2)^[n] s).amAcc.toInt ≤ (c.mag x.i x.q).toNat * 2 ^ c.kAm := by
  have hpos := pow2_pos c.kAm
  have hmag := (c.mag x.i x.q).isLt
  induction n with
  | zero => simp [hs]
  | succ n ih =>
    rw [Function.iterate_succ_apply']
    generalize (fun u => (demodAm c x u).2)^[n] s = u at ih ⊢
    obtain ⟨hge, hle⟩ := ih
    have htop : (0 : Int) ≤ (c.mag x.i x.q).toNat * 2 ^ c.kAm := by positivity
    have hacc := demodAm_amAcc c x u hk (by omega) (hle.trans (by nlinarith))
    have hleak := sub_asr_le _ _ _ hle
    have hest : u.amAcc.toInt < (c.mag x.i x.q).toNat * 2 ^ c.kAm →
        u.amAcc.toInt / 2 ^ c.kAm < (c.mag x.i x.q).toNat := fun hlt => Int.ediv_lt_of_lt_mul hpos hlt
    have hfull : u.amAcc.toInt = (c.mag x.i x.q).toNat * 2 ^ c.kAm →
        u.amAcc.toInt / 2 ^ c.kAm = (c.mag x.i x.q).toNat := fun heq => Int.ediv_eq_of_eq_mul_left hpos.ne' heq
    unfold asr at hleak
    omega

/-- Settles O40: after that many calls the tracker stands at `m * 2^K_AM`, where O39 gives the output 0. -/
theorem amOutputOfAConstantEnvelopeFallsToZero : Obligations.AmOutputOfAConstantEnvelopeFallsToZero := by
  unfold Obligations.AmOutputOfAConstantEnvelopeFallsToZero
  intro c x s n hwf hs hn
  obtain ⟨hge, hle⟩ := demodAm_iterate_amAcc (kAm_le hwf) x hs n
  rw [min_eq_right (by exact_mod_cast hn)] at hge
  have hmag := (c.mag x.i x.q).isLt
  have hpos := pow2_pos c.kAm
  have hacc := le_antisymm hle hge
  obtain ⟨a, t, hcall, -, -, -, -, -, -, hzero⟩ := amTracksTheEnvelope c x ((fun u => (demodAm c x u).2)^[n] s) hwf
    (hacc ▸ by positivity) (hacc ▸ by nlinarith)
  obtain ⟨-, ha⟩ := hzero (Int.ediv_eq_of_eq_mul_left hpos.ne' hacc)
  rw [hcall, ha]

/-! ### FM (R334) -/

/-- Settles O41, by the range and the congruence of `wrap_16`. -/
theorem fmOutputIsTheWrappedPhaseDifference : Obligations.FmOutputIsTheWrappedPhaseDifference := by
  unfold Obligations.FmOutputIsTheWrappedPhaseDifference
  intro c x s
  have hbounds := wrap16_bounds ((c.phase x.i x.q).toInt - s.fmLast.toInt)
  obtain ⟨k, hk⟩ := wrap16_congr ((c.phase x.i x.q).toInt - s.fmLast.toInt)
  have hout := toSample_toInt _ hbounds
  exact ⟨_, k, rfl, hout.trans hk, hout.symm ▸ hbounds⟩

/-! ### SSB (R335 to R339) -/

theorem sample_clamp (v : Sample) : v.toInt = max (-32768) (min v.toInt 32767) := by
  have hv := sample_bounds v
  omega

theorem negSat_clamp (v : Sample) : (negSat v).toInt = max (-32768) (min (-v.toInt) 32767) :=
  toSample_sat16_toInt (-v.toInt)

theorem negSat_exact {v : Sample} (hv : v.toInt ≠ -32768) : (negSat v).toInt = -v.toInt := by
  have hbounds := sample_bounds v
  rw [negSat_clamp]
  omega

/-- A lane at -32768 is negated to 32767 (R335, R336). -/
theorem negSat_lowest {v : Sample} (hv : v.toInt = -32768) : (negSat v).toInt = 32767 := by
  rw [negSat_clamp, hv]
  rfl

/-- The product by each power of `j` is a quarter turn more. -/
theorem gaussian_mul_j_pow (i q : Int) (k : Nat) (hk : k < 4) : (⟨i, q⟩ : GaussianInt) * ⟨0, 1⟩ ^ k =
    if k = 0 then ⟨i, q⟩ else if k = 1 then ⟨-q, i⟩ else if k = 2 then ⟨-i, -q⟩ else ⟨q, -i⟩ := by
  interval_cases k <;> simp [pow_succ, Zsqrtd.ext_iff]

theorem gaussian_mul_neg_j_pow_re (i q : Int) (k : Nat) (hk : k < 4) : ((⟨i, q⟩ : GaussianInt) * ⟨0, -1⟩ ^ k).re =
    if k = 0 then i else if k = 1 then q else if k = 2 then -i else -q := by
  interval_cases k <;> simp [pow_succ]

theorem ssbIndex_cases (k : BitVec 2) : k = 0 ∨ k = 1 ∨ k = 2 ∨ k = 3 := by
  revert k
  decide

section
variable (k : BitVec 2) (x : Pair)

/-- The first rotation is the product by `j^k`, each lane clamped (R335). -/
theorem ssbRot_clamp :
    (ssbRot k x).i.toInt =
      max (-32768) (min ((⟨x.i.toInt, x.q.toInt⟩ : GaussianInt) * ⟨0, 1⟩ ^ k.toNat).re 32767) ∧
    (ssbRot k x).q.toInt =
      max (-32768) (min ((⟨x.i.toInt, x.q.toInt⟩ : GaussianInt) * ⟨0, 1⟩ ^ k.toNat).im 32767) := by
  rw [gaussian_mul_j_pow _ _ _ k.isLt]
  rcases ssbIndex_cases k with rfl | rfl | rfl | rfl
  · exact ⟨sample_clamp x.i, sample_clamp x.q⟩
  · exact ⟨negSat_clamp x.q, sample_clamp x.i⟩
  · exact ⟨negSat_clamp x.i, negSat_clamp x.q⟩
  · exact ⟨sample_clamp x.q, negSat_clamp x.i⟩

/-- The selection is the real part of the product by `(-j)^k`, clamped (R336). -/
theorem ssbSel_clamp : (ssbSel k x).toInt =
    max (-32768) (min ((⟨x.i.toInt, x.q.toInt⟩ : GaussianInt) * ⟨0, -1⟩ ^ k.toNat).re 32767) := by
  rw [gaussian_mul_neg_j_pow_re _ _ _ k.isLt]
  rcases ssbIndex_cases k with rfl | rfl | rfl | rfl
  · exact sample_clamp x.i
  · exact sample_clamp x.q
  · exact negSat_clamp x.i
  · exact negSat_clamp x.q

variable {x} (hi : x.i.toInt ≠ -32768) (hq : x.q.toInt ≠ -32768)
include hi hq

theorem ssbRot_exact : (⟨(ssbRot k x).i.toInt, (ssbRot k x).q.toInt⟩ : GaussianInt) =
    ⟨x.i.toInt, x.q.toInt⟩ * ⟨0, 1⟩ ^ k.toNat := by
  rw [gaussian_mul_j_pow _ _ _ k.isLt]
  rcases ssbIndex_cases k with rfl | rfl | rfl | rfl
  · rfl
  · exact Zsqrtd.ext (negSat_exact hq) rfl
  · exact Zsqrtd.ext (negSat_exact hi) (negSat_exact hq)
  · exact Zsqrtd.ext rfl (negSat_exact hi)

theorem ssbSel_exact : (ssbSel k x).toInt = ((⟨x.i.toInt, x.q.toInt⟩ : GaussianInt) * ⟨0, -1⟩ ^ k.toNat).re := by
  rw [gaussian_mul_neg_j_pow_re _ _ _ k.isLt]
  rcases ssbIndex_cases k with rfl | rfl | rfl | rfl
  · rfl
  · rfl
  · exact negSat_exact hi
  · exact negSat_exact hq

end

/-- Settles O42: for each index the rotations move and negate the lanes as the Gaussian products do, but for saturation. -/
theorem ssbRotationsArePowersOfJ : Obligations.SsbRotationsArePowersOfJ := by
  unfold Obligations.SsbRotationsArePowersOfJ
  intro k x z
  obtain ⟨hlaneI, hlaneQ⟩ := ssbRot_clamp k x
  exact ⟨hlaneI, hlaneQ, ssbSel_clamp k x, fun hi hq => ⟨ssbRot_exact k hi hq, ssbSel_exact k hi hq⟩,
    fun hlow => ⟨negSat_lowest hlow, negSat_lowest hlow, negSat_lowest hlow⟩,
    fun hlow => ⟨negSat_lowest hlow, negSat_lowest hlow, negSat_lowest hlow⟩⟩

/-- The index moves modulo 4 (R338, R339). -/
theorem demodSsb_ssbIdx (c : Config) (d : BitVec 2) (x : Pair) (s : State) :
    (demodSsb c d x s).2.ssbIdx.toNat = (s.ssbIdx.toNat + d.toNat) % 4 :=
  BitVec.toNat_add s.ssbIdx d

/-- Settles O43: both are the shared SSB call, which moves the index by 1 and by -1. -/
theorem ssbUsesTheIndexAndTurnsIt : Obligations.SsbUsesTheIndexAndTurnsIt := by
  unfold Obligations.SsbUsesTheIndexAndTurnsIt
  intro c x s r
  exact ⟨_, _, rfl, rfl, demodSsb_ssbIdx c 1 x s, demodSsb_ssbIdx c (-1) x s, rfl, rfl⟩

/-! ### CW (R340, R341, R343) -/

theorem lutIndex_eq (c : Config) (ph : BitVec 32) : lutIndex c ph = ph.toNat / 2 ^ c.phaseToIndex := by
  rw [lutIndex, asr]
  exact_mod_cast Int.toNat_natCast (ph.toNat / 2 ^ c.phaseToIndex)

/-- The output of a CW call: the magnitude register after the call, and the sine at the phase before it (R343). -/
theorem demodCw_output (c : Config) (x : Pair) (s : State) : (demodCw c x s).1 = some (toSample (sat16
    (asr ((demodCw c x s).2.cwMag.toNat * sinLut c (s.stPhase.toNat / 2 ^ c.phaseToIndex)) c.sLut))) := by
  rw [← lutIndex_eq, demodCw_eq]
  simp only [demodCw, cwTone, cwCascade_eq, cwMagnitude_eq]

/-- Settles O44, by DEMOD_CW as one record update. -/
theorem cwScalesTheSidetoneByTheMagnitude : Obligations.CwScalesTheSidetoneByTheMagnitude := by
  unfold Obligations.CwScalesTheSidetoneByTheMagnitude
  intro c x s hwf
  obtain ⟨-, -, -, ⟨-, -, hphase, -, -⟩, -⟩ := hwf
  refine ⟨_, (demodCw c x s).2, Prod.ext (demodCw_output c x s) rfl, (congrArg State.cwMag (demodCw_eq c x s) :),
    toSample_sat16_toInt _, ?_, ?_⟩
  · rw [demodCw_eq]
    exact (reg32_toNat _ _ hphase).trans (by exact_mod_cast umod_cast c.wPhase (s.stPhase.toNat + s.sidetoneInc.toNat : Nat))
  · rw [demodCw_eq, cwCascade_eq]

/-! ### What a mode just entered does not see (R345, R346) -/

/-- The state with the groups of all modes as in `g`. -/
def State.withGroups (s g : State) : State :=
  { s with
    amAcc := g.amAcc, fmLast := g.fmLast, ssbIdx := g.ssbIdx, ssbFilt := g.ssbFilt, cicCw := g.cicCw
    hb1Cw := g.hb1Cw, hb2Cw := g.hb2Cw, cwMag := g.cwMag, stPhase := g.stPhase }

/-- The state with the groups of all modes but `m` as in `g`. -/
def State.withOtherGroups (m : Mode) (s g : State) : State :=
  match m with
  | .am => { s.withGroups g with amAcc := s.amAcc }
  | .fm => { s.withGroups g with fmLast := s.fmLast }
  | .usb => { s.withGroups g with ssbIdx := s.ssbIdx, ssbFilt := s.ssbFilt }
  | .lsb => { s.withGroups g with ssbIdx := s.ssbIdx, ssbFilt := s.ssbFilt }
  | .cw => { s.withGroups g with
      cicCw := s.cicCw, hb1Cw := s.hb1Cw, hb2Cw := s.hb2Cw, cwMag := s.cwMag, stPhase := s.stPhase }

theorem demod_mode (c : Config) (x : Pair) (s : State) : (demod c x s).2.mode = s.mode := by
  rw [demod_frame]

section
variable (c : Config) (m : Mode) (g : State) {s : State}

/-- A call in mode `m` neither reads nor writes the groups of the other modes (R346). -/
theorem demod_withOtherGroups (x : Pair) (hm : s.mode = m) :
    demod c x (s.withOtherGroups m g) = ((demod c x s).1, (demod c x s).2.withOtherGroups m g) := by
  cases m with
  | am => rw [demod_am c x hm, demod_am (s := s.withOtherGroups .am g) c x hm]; rfl
  | fm => rw [demod_fm c x hm, demod_fm (s := s.withOtherGroups .fm g) c x hm]; rfl
  | usb => rw [demod_usb c x hm, demod_usb (s := s.withOtherGroups .usb g) c x hm]; rfl
  | lsb => rw [demod_lsb c x hm, demod_lsb (s := s.withOtherGroups .lsb g) c x hm]; rfl
  | cw =>
    rw [demod_cw c x hm, demod_cw (s := s.withOtherGroups .cw g) c x hm]
    simp only [demodCw, cwTone, cwCascade_eq, cwMagnitude_eq]
    rfl

theorem foldl_demod_withOtherGroups (xs : List Pair) (hm : s.mode = m) :
    (xs.foldl (fun v y => (demod c y v).2) s).mode = m ∧
    xs.foldl (fun v y => (demod c y v).2) (s.withOtherGroups m g) =
      (xs.foldl (fun v y => (demod c y v).2) s).withOtherGroups m g := by
  induction xs generalizing s with
  | nil => exact ⟨hm, rfl⟩
  | cons x xs ih =>
    rw [List.foldl_cons, List.foldl_cons, demod_withOtherGroups c m g x hm]
    exact ih ((demod_mode c x s).trans hm)

/-- A change of mode resets the group of the mode entered, so of the groups before it only the others are left (R345). -/
theorem selectMode_withGroups (hm : m ≠ s.mode) :
    (selectMode c m (s.withGroups g)).noResponse = (selectMode c m s).noResponse.withOtherGroups m g := by
  have hm' : m ≠ (s.withGroups g).mode := hm
  rw [selectMode, selectMode, if_neg hm, if_neg hm']
  cases m <;> rfl

theorem selectMode_mode : (selectMode c m s).mode = m := by
  rw [selectMode]
  split
  case isTrue h => exact h.symm
  case isFalse => cases m <;> rfl

end

/-- Settles O46: the two runs differ in the groups of the other modes alone, which no call in the mode entered reads. -/
theorem aModeJustEnteredStartsFresh : Obligations.AModeJustEnteredStartsFresh := by
  unfold Obligations.AModeJustEnteredStartsFresh
  intro data s g m xs x hcode hm
  have hmode : (selectMode Config.chip m s).noResponse.mode = m := selectMode_mode Config.chip m
  obtain ⟨hcalls, hother⟩ := foldl_demod_withOtherGroups Config.chip m g xs hmode
  refine ⟨_, _, exec_wrMode_of_code s hcode, exec_wrMode_of_code (s.withGroups g) hcode, ?_⟩
  rw [selectMode_withGroups Config.chip m g hm, hother, demod_withOtherGroups Config.chip m g x hcalls]

end Sys2Proof.Machine
end

section
/-!
PROOFS. The automatic gain control (45_agc.md R380 to R392): the preset, the three phases of the detector with what each leaves in
the peak and the hang count, the length of the hang, the soft clip by magnitude and sign, and the whole output.
-/
namespace Sys2Proof.Machine

/-! ### The preset (R389, R390) -/

/-- AGC_SPEED has the four values the preset table is indexed by. -/
theorem agcSpeed_cases (v : BitVec 2) : v = 0 ∨ v = 1 ∨ v = 2 ∨ v = 3 := by decide +revert

theorem agcPreset_zero (c : Config) : agcPreset c 0 = c.agcPresets.fast := rfl
theorem agcPreset_one (c : Config) : agcPreset c 1 = c.agcPresets.medium := rfl
theorem agcPreset_two (c : Config) : agcPreset c 2 = c.agcPresets.slow := rfl
theorem agcPreset_three (c : Config) : agcPreset c 3 = c.agcPresets.long := rfl

theorem agcPreset_wf (c : Config) (v : BitVec 2) (h : c.Wf8) : (agcPreset c v).Wf := by
  obtain ⟨hfast, hmedium, hslow, hlong⟩ := h
  rcases agcSpeed_cases v with rfl | rfl | rfl | rfl
  · exact hfast
  · exact hmedium
  · exact hslow
  · exact hlong

/-! ### The phases of the detector (R381 to R384) -/

/-- The detector input by absolute value, as R381 writes it. -/
theorem agcInput_eq_abs (c : Config) (x : Sample) : agcInput c x = |x.toInt| * 2 ^ c.agcExtra := by
  rw [agcInput, Int.abs_eq_natAbs]

section
variable {c : Config} {x : Sample} {d : Detector} (p : AgcPreset)

theorem agcDetect_of_above (h : d.hold.toInt < agcInput c x) : agcDetect c p x d = agcAttack (agcInput c x) p d :=
  if_pos h

theorem agcDetect_of_hanging (h : agcInput c x ≤ d.hold.toInt) (hhang : 0 < d.hang.toNat) :
    agcDetect c p x d = agcHangPhase d := by
  rw [agcDetect, if_neg (by omega), if_pos hhang]

theorem agcDetect_of_hang_zero (h : agcInput c x ≤ d.hold.toInt) (hhang : d.hang.toNat = 0) :
    agcDetect c p x d = agcDecay p d := by
  rw [agcDetect, if_neg (by omega), if_neg (by omega)]

/-- An attack from a peak in its range to an input above it: the 64-bit store does not wrap (R382). -/
theorem agcAttack_hold (he : c.agcExtra ≤ 31) (hlo : 0 ≤ d.hold.toInt) (h : d.hold.toInt < agcInput c x) :
    (agcAttack (agcInput c x) p d).hold.toInt = d.hold.toInt + asr (agcInput c x - d.hold.toInt) p.att := by
  obtain ⟨-, hin⟩ := agcInput_bounds c x
  have hpow : (2 : Int) ^ c.agcExtra ≤ 2 ^ 31 := pow_le_pow_right₀ (by decide) he
  have hasr := asr_bounds (agcInput c x - d.hold.toInt) p.att (by omega)
  exact toInt_ofInt64 _ (by omega)

/-- The hang count of a well-formed preset fits its register. -/
theorem agcAttack_hang (e : Int) (hp : p.Wf) : (agcAttack e p d).hang.toNat = p.hang := by
  obtain ⟨-, -, hhang⟩ := hp
  exact (BitVec.toNat_ofNat p.hang 32).trans (Nat.mod_eq_of_lt (by omega))

end

theorem agcHangPhase_hang (d : Detector) (h : 0 < d.hang.toNat) : (agcHangPhase d).hang.toNat = d.hang.toNat - 1 := by
  rw [agcHangPhase]
  bv_omega

/-- A decay from a peak of 0 or more: the 64-bit store does not wrap (R384). -/
theorem agcDecay_hold (p : AgcPreset) (d : Detector) (hlo : 0 ≤ d.hold.toInt) :
    (agcDecay p d).hold.toInt = d.hold.toInt - asr d.hold.toInt p.dec := by
  have hasr := asr_bounds d.hold.toInt p.dec hlo
  have hmax := BitVec.toInt_lt (x := d.hold)
  exact toInt_ofInt64 _ (by omega)

/-- A peak-hold in [0, 32768 * 2^E] gives a peak in [0, 32768] (R385). -/
theorem agcPeak_bounds (c : Config) (d : Detector)
    (h : 0 ≤ d.hold.toInt ∧ d.hold.toInt ≤ 32768 * 2 ^ c.agcExtra) : 0 ≤ agcPeak c d ∧ agcPeak c d ≤ 32768 := by
  obtain ⟨hlo, hhi⟩ := h
  exact ⟨(asr_bounds d.hold.toInt c.agcExtra hlo).1, Int.ediv_le_of_le_mul (pow2_pos _) hhi⟩

/-- Settles O47: each phase by its own rule, the ranges from the detector as a whole. -/
theorem agcRunsOnePhaseAndKeepsItsRange : Obligations.AgcRunsOnePhaseAndKeepsItsRange := by
  unfold Obligations.AgcRunsOnePhaseAndKeepsItsRange
  intro c speed x d hwf hlo hhi p
  rw [← agcInput_eq_abs c x]
  intro e t
  obtain ⟨-, -, -, -, -, -, ⟨-, -, he, -⟩, hpresets, -⟩ := hwf
  have hrange : 0 ≤ t.hold.toInt ∧ t.hold.toInt ≤ 32768 * 2 ^ c.agcExtra := agcDetect_hold_bounds c p x d he ⟨hlo, hhi⟩
  refine ⟨fun hattack => ?attack, fun hbelow hhang => ?hang, fun hbelow hhang => ?decay, hrange.1, hrange.2,
    agcPeak_bounds c t hrange⟩
  case attack =>
    have ht : t = agcAttack e p d := agcDetect_of_above p hattack
    have hhold : t.hold.toInt = d.hold.toInt + asr (e - d.hold.toInt) p.att := ht ▸ agcAttack_hold p he hlo hattack
    have hasr := asr_bounds (e - d.hold.toInt) p.att (by omega)
    exact ⟨hhold, ht ▸ agcAttack_hang p e (agcPreset_wf c speed hpresets), by omega, by omega⟩
  case hang =>
    have hpos : 0 < d.hang.toNat := by bv_omega
    have ht : t = agcHangPhase d := agcDetect_of_hanging p hbelow hpos
    exact ⟨ht ▸ rfl, ht ▸ agcHangPhase_hang d hpos⟩
  case decay =>
    have ht : t = agcDecay p d := agcDetect_of_hang_zero p hbelow (by rw [hhang]; rfl)
    have hhold : t.hold.toInt = d.hold.toInt - asr d.hold.toInt p.dec := ht ▸ agcDecay_hold p d hlo
    have hasr := asr_bounds d.hold.toInt p.dec hlo
    exact ⟨hhold, ht ▸ hhang, by omega⟩

/-! ### The length of the hang (R392) -/

/-- Inputs at or below the peak, no more of them than the hang count, are hang calls all. -/
theorem foldl_agcDetect_hang (c : Config) (p : AgcPreset) (xs : List Sample) (d : Detector) (hlen : xs.length ≤ d.hang.toNat)
    (hbelow : ∀ y ∈ xs, agcInput c y ≤ d.hold.toInt) :
    (xs.foldl (fun v y => agcDetect c p y v) d).hold = d.hold ∧
    (xs.foldl (fun v y => agcDetect c p y v) d).hang.toNat = d.hang.toNat - xs.length := by
  induction xs generalizing d with
  | nil => exact ⟨rfl, rfl⟩
  | cons y ys ih =>
    rw [List.length_cons] at hlen ⊢
    obtain ⟨hy, hys⟩ := List.forall_mem_cons.mp hbelow
    have hhang := agcHangPhase_hang d (by omega)
    rw [List.foldl_cons, agcDetect_of_hanging p hy (by omega)]
    obtain ⟨hhold, hcount⟩ := ih (agcHangPhase d) (by omega) hys
    exact ⟨hhold, by omega⟩

/-- Settles O48: the sequence is hang calls alone, and the hang count it leaves decides the phase of the next call. -/
theorem agcHangLastsExactlyItsCount : Obligations.AgcHangLastsExactlyItsCount := by
  unfold Obligations.AgcHangLastsExactlyItsCount
  intro c p d xs x hlen hbelow u
  obtain ⟨hx, hxs⟩ := List.forall_mem_cons.mp hbelow
  obtain ⟨hhold, hcount⟩ : u.hold = d.hold ∧ u.hang.toNat = d.hang.toNat - xs.length :=
    foldl_agcDetect_hang c p xs d hlen hxs
  have hnext : agcInput c x ≤ u.hold.toInt := by rwa [hhold]
  refine ⟨hhold, hcount, fun hlt => ?_, fun heq => ?_⟩
  · rw [agcDetect_of_hanging p hnext (by omega)]
    exact hhold
  · exact agcDetect_of_hang_zero p hnext (by omega)

/-! ### Gain, soft clip and clamp (R386 to R388) -/

/-- The soft clip by magnitude and sign (R387). -/
theorem softClip_eq_sign_mul (sp y : Int) (hsp : 0 ≤ sp) :
    softClip sp y = if |y| ≤ sp then y else y.sign * (sp + (|y| - sp) / 2) := by
  have hasr (v : Int) : asr v 1 = v / 2 := rfl
  rw [softClip, hasr, hasr]
  rcases lt_trichotomy y 0 with hneg | rfl | hpos
  · rw [abs_of_neg hneg, Int.sign_eq_neg_one_of_neg hneg]
    split_ifs <;> omega
  · simp [hsp, hsp.not_gt]
  · rw [abs_of_pos hpos, Int.sign_eq_one_of_pos hpos]
    split_ifs <;> omega

/-- The soft clip is odd: only the sign tells the two sides apart (R387). -/
theorem softClip_neg (sp v : Int) (hsp : 0 ≤ sp) : softClip sp (-v) = -softClip sp v := by
  rw [softClip_eq_sign_mul sp _ hsp, softClip_eq_sign_mul sp _ hsp, abs_neg, Int.sign_neg, neg_mul]
  split <;> rfl

/-- Settles O49: the output is the clamp of the soft clip of the gain, and the soft clip is odd. -/
theorem agcGainSoftClipAndClamp : Obligations.AgcGainSoftClipAndClamp := by
  unfold Obligations.AgcGainSoftClipAndClamp
  intro c x peak _ y z
  have hsp : (0 : Int) ≤ c.agcSetpoint := Int.natCast_nonneg _
  have hgain : agcGain c x.toInt peak = y := rfl
  have hclip : softClip c.agcSetpoint y = z := softClip_eq_sign_mul _ y hsp
  refine ⟨?_, fun v => softClip_neg _ v hsp⟩
  rw [agcOutput, toSample_sat16_toInt, hgain, hclip]

/-! ### The whole AGC (R380) -/

/-- Settles O50: the preset by the value of AGC_SPEED, the rest as `agc_eq` says. -/
theorem agcUsesThePresetAndTheUpdatedPeak : Obligations.AgcUsesThePresetAndTheUpdatedPeak := by
  unfold Obligations.AgcUsesThePresetAndTheUpdatedPeak
  intro c x s
  refine ⟨agcPreset c s.agcSpeed, (agc c x s).2, ?_, rfl, agc_eq c x s⟩
  rcases agcSpeed_cases s.agcSpeed with h | h | h | h <;> rw [h]
  · exact agcPreset_zero c
  · exact agcPreset_one c
  · exact agcPreset_two c
  · exact agcPreset_three c

end Sys2Proof.Machine
end

section
/-!
PROOFS. The host transactions that read (46_host_transactions.md R410 to R443): a few words decoded, the responses of the registers
a master can also write, and the three windows with the headers around them that no transaction has.
-/
namespace Sys2Proof.Machine

/-! ### Sample words (R140, R146) -/

/-- Settles O9: six of the pairs are what the encoder writes, which O7 reads back; the data word of the CAP_I read is not 0, so its
row is named. -/
theorem sampleWordsDecodeToTheirTransactions : Obligations.SampleWordsDecodeToTheirTransactions := by
  unfold Obligations.SampleWordsDecodeToTheirTransactions
  have hread := decodeReadsBackEveryEncodedTransaction
  refine ⟨hread (.wrStatus 0x1F#32) rfl, hread (.wrFreqOffset 300000#32) rfl, hread .rdSidetoneInc rfl,
    hread (.pushCode 0xFFFF0800#32) rfl, ?ignoredData, hread (.rdCapQ 255) rfl, hread (.rdAudioOut 403) rfl⟩
  case ignoredData =>
    exact (decode_eq_ok_iff _ _ _).mpr ⟨by decide, capIRow, rowOf_capI (by decide) (by decide), rfl, rfl⟩

/-! ### Responses of the settings (R145) -/

/-- An unsigned field of `w` bits is answered with `k` zeros above it, `k + w` the width of a word (R145). -/
theorem rdataUnsigned_append {k w : Nat} (v : BitVec w) (h : k + w = 32) : rdataUnsigned v = (0#k ++ v).cast h := by
  obtain rfl : k = 32 - w := by omega
  exact BitVec.setWidth_eq_append (by omega)

/-- Settles O17: the fields of a word are answered as they stand, the narrower ones by `rdataUnsigned_append`, MODE by its code. -/
theorem readsOfSettingsReturnTheStoredValue : Obligations.ReadsOfSettingsReturnTheStoredValue := by
  unfold Obligations.ReadsOfSettingsReturnTheStoredValue
  refine fun s => ⟨?status, rfl, ?mode, rfl, ?agcSpeed, ?cwSidetone, rfl, rfl, rfl, ?iqSwap, ?pwmMax⟩
  case status => rw [exec, execRdStatus, rdataUnsigned_append (k := 26) _ rfl, State.respond, BitVec.cast_eq]
  case agcSpeed => rw [exec, execRdAgcSpeed, rdataUnsigned_append (k := 30) _ rfl, State.respond, BitVec.cast_eq]
  case cwSidetone => rw [exec, execRdCwSidetone, rdataUnsigned_word, State.respond]
  case iqSwap => rw [exec, execRdIqSwap, rdataUnsigned_append (k := 31) _ rfl, State.respond, BitVec.cast_eq]
  case pwmMax => rw [exec, execRdPwmMax, rdataUnsigned_append (k := 16) _ rfl, State.respond, BitVec.cast_eq]
  case mode =>
    rw [exec, execRdMode, State.respond]
    cases s.mode <;> rfl

/-! ### The windows (R441 to R443) -/

/-- The header of entry `k` of a window of `2 ^ w` entries whose first header is `base`, by number (R144). -/
theorem windowHeader_toNat {w : Nat} (base : Word) (k : BitVec w) (hfit : base.toNat % 2 ^ 16 + 4 * 2 ^ w ≤ 2 ^ 16) :
    (base + 4 * k.setWidth 32).toNat = base.toNat + 4 * k.toNat := by
  have hk := k.isLt
  have hbase := base.isLt
  have hfour : (4 : Word).toNat = 4 := rfl
  rw [BitVec.toNat_add, BitVec.toNat_mul, BitVec.toNat_setWidth, hfour]
  omega

/-- No write may name an address above ADC_DATA (R101). -/
theorem not_legalHeader_of_write_above {h : Word} (hwrite : 2 ^ 31 ≤ h.toNat) (habove : 0x40 < h.toNat % 2 ^ 16) :
    ¬ LegalHeader h := by
  rintro ⟨-, -, haddr⟩
  rw [if_neg (Nat.not_lt.mpr hwrite)] at haddr
  have hlast : ∀ n ∈ writeAddresses, n ≤ 0x40 := by decide
  exact absurd (hlast _ haddr) (Nat.not_le.mpr habove)

/-- No read may name an address from the end of AUDIO_OUT on (R101). -/
theorem not_legalHeader_of_read_beyond_audioOut {h : Word} (hread : h.toNat < 2 ^ 31)
    (hbeyond : 0x1000 + 4 * Config.chip.outCap ≤ h.toNat) : ¬ LegalHeader h := by
  rintro ⟨-, -, haddr⟩
  rw [if_pos hread] at haddr
  omega

/-- A window is read-only: a write header of an entry decodes to no transaction, whatever the data word. -/
theorem decode_windowWrite_error {w : Nat} (base data : Word) (k : BitVec w) (hwrite : 2 ^ 31 ≤ base.toNat)
    (habove : 0x40 < base.toNat % 2 ^ 16) (hfit : base.toNat % 2 ^ 16 + 4 * 2 ^ w ≤ 2 ^ 16) :
    ∃ e, decode ⟨base + 4 * k.setWidth 32, data⟩ = .error e := by
  have hk := k.isLt
  have hheader := windowHeader_toNat base k hfit
  exact decode_error_of_not_legal data (not_legalHeader_of_write_above (by omega) (by omega))

/-- An AUDIO_OUT read with an index at or above OUT_CAP decodes to no transaction (R443). -/
theorem decode_audioOut_error (data : Word) (k : BitVec 10) (hk : Config.chip.outCap ≤ k.toNat) :
    ∃ e, decode ⟨0x00001000#32 + 4 * k.setWidth 32, data⟩ = .error e := by
  have hlt := k.isLt
  have hheader : (0x00001000#32 + 4 * k.setWidth 32).toNat = 0x1000 + 4 * k.toNat :=
    windowHeader_toNat 0x00001000#32 k (by decide)
  exact decode_error_of_not_legal data (not_legalHeader_of_read_beyond_audioOut (by omega) (by omega))

/-- Settles O19: the responses by their record updates, the write headers by `decode_windowWrite_error`. -/
theorem windowsAreReadAndNotWritten : Obligations.WindowsAreReadAndNotWritten := by
  unfold Obligations.WindowsAreReadAndNotWritten
  refine ⟨fun k s => ⟨rfl, rfl⟩, fun k s => ?audioOut, fun data k => ⟨?writeCapI, ?writeCapQ⟩,
    fun data k => ⟨?writeAudioOut, decode_audioOut_error data k⟩⟩
  case audioOut => rw [exec, execRdAudioOut, rdataUnsigned_append (k := 16) _ rfl, State.respond, BitVec.cast_eq, entry]
  case writeCapI | writeCapQ | writeAudioOut =>
    exact decode_windowWrite_error _ data k (by decide) (by decide) (by decide)

end Sys2Proof.Machine
end

section
/-!
PROOFS. Reset and the whole run (60_exceptions.md, 70_reset_and_hazards.md): the state after power-on reset with its ranges, and the
queue along a run that nothing stops.
-/
namespace Sys2Proof.Machine

/-! ### The queue along a run (R109, R470, R473, R480) -/

/-- No transaction touches the queue behind it, legal or not (R109, R147). -/
theorem perform_bus {u : BusTxn} {s t : State} (h : perform u s = .next t) : t.bus = s.bus := by
  cases hdec : decode u with
  | ok i => exact exec_bus ((perform_legal s hdec).symm.trans h)
  | error e =>
    obtain rfl : _ = t := Host.Outcome.next.inj ((perform_illegal s hdec).symm.trans h)
    rw [busError_eq]

/-- A step takes the head of the queue, and leaves the empty queue empty (R109, R480). -/
theorem step_bus {s t : State} (h : step s = .next t) : t.bus = s.bus.tail := by
  cases hbus : s.bus with
  | nil =>
    obtain rfl : s = t := Host.Outcome.next.inj ((step_of_idle hbus).symm.trans h)
    exact hbus
  | cons u rest => exact perform_bus ((step_of_head hbus).symm.trans h)

/-- Settles O3, by induction on the run: no step stops the machine (`step_next`), and each takes one transaction (`step_bus`). -/
theorem everyRunTakesItsTransactionsAndNeverStops : Obligations.EveryRunTakesItsTransactionsAndNeverStops := by
  unfold Obligations.EveryRunTakesItsTransactionsAndNeverStops
  intro n
  induction n with
  | zero => exact fun s => ⟨s, rfl, rfl⟩
  | succ n ih =>
    intro s
    obtain ⟨t, hstep⟩ := step_next s
    obtain ⟨v, hrun, hbus⟩ := ih t
    refine ⟨v, (run_succ_of_step Sys2Proof.core n s t hstep).trans hrun, ?_⟩
    rw [hbus, step_bus hstep, List.drop_tail]

/-! ### The state after reset (R490, R491) -/

/-- Settles O1: each row of table R491 is the field `State.resetIn` gives it, and `irq` is low because both its flags are. -/
theorem resetPutsEveryRegisterAtItsResetValue : Obligations.ResetPutsEveryRegisterAtItsResetValue := by
  unfold Obligations.ResetPutsEveryRegisterAtItsResetValue
  and_intros
  all_goals rfl

theorem rhaz_zero (den : Nat) : rhaz 0 den = 0 := by
  rw [rhaz, if_pos le_rfl]
  rcases den.eq_zero_or_pos with rfl | hden
  · rfl
  · exact Int.ediv_eq_zero_of_lt (by omega) (by omega)

/-- The offset 0 has the frequency word 0 (R255). -/
theorem freqWordOf_zero (c : Config) : freqWordOf c 0 = 0 := by
  simp [freqWordOf, rhaz_zero, reg32, umod]

/-- The sidetone 0 has the increment 0 (R342). -/
theorem sidetoneIncOf_zero (c : Config) : sidetoneIncOf c 0 = 0 := by
  simp [sidetoneIncOf, rhaz_zero, reg32, umod]

/-- Settles O51: the CIC instances by `Cic.zero_inRange`, the derived words by the tuning formulas at 0, the windows by their
lengths and `entry_zeroFill`; the other ranges hold 0. -/
theorem stateRangesHoldAtReset : Obligations.StateRangesHoldAtReset := by
  unfold Obligations.StateRangesHoldAtReset
  obtain ⟨hcntMain, hnarrowMain⟩ := Cic.zero_inRange 32 20 (by decide)
  obtain ⟨hcntCw, hnarrowCw⟩ := Cic.zero_inRange 32 10 (by decide)
  exact {
    cntMain := hcntMain
    narrowMain := hnarrowMain
    cntCw := hcntCw
    narrowCw := hnarrowCw
    amAcc := by decide
    hold := by decide
    blkN := by decide
    magSum := Nat.zero_le _
    workCount := Nat.zero_le _
    workBuf := List.length_replicate
    capShI := List.length_replicate
    capShQ := List.length_replicate
    offset := by decide
    word := (freqWordOf_zero Config.chip).symm
    sidetone := Nat.zero_le _
    increment := (sidetoneIncOf_zero Config.chip).symm
    outCount := Nat.zero_le _
    capI := List.length_replicate
    capQ := List.length_replicate
    audioOut := List.length_replicate
    audioZero := fun k _ => entry_zeroFill [] 0 404 k (Nat.zero_le k) }

end Sys2Proof.Machine
end
